-- ==== Sys2Proof/Word.lean ====
section
/-! DEFINITION. The word types of the machine: their widths are the parameters of 00_scope.md rule R5. -/

namespace Sys2Proof

/-- One byte of the program (20_memory.md R61); also the width of the P6 event number and of the unit
mask (10_state.md R39, decision D23, log 26). -/
abbrev Byte := BitVec 8

/-- A general register: ECX, EDX or EAX (GPR_WIDTH of rule R5; 10_state.md R26). -/
abbrev Reg := BitVec 32

/-- The register pair EDX:EAX as one value (00_scope.md R9). -/
abbrev Pair := BitVec 64

/-- An event counter (CTR_WIDTH of rule R5; 10_state.md R20). -/
abbrev Counter := BitVec 40

/-- A Pentium event code (PENTIUM_CODE_WIDTH of rule R5; 30_encoding.md R87). -/
abbrev PentiumCode := BitVec 6

end Sys2Proof
end

