-- ==== Sys2Proof/Config.lean ====
section
/-! DEFINITION. What an implementation fixes (00_scope.md R5, R6) and the free values: constants without a
body, of which nothing can be proved. -/

namespace Sys2Proof.Config

/-- NCTR of rule R5: the number of event counters. -/
def nctr : Nat := 2

/-- CR4_PCE_BIT of rule R5: "bit #8 is set in CR4 (CR4.PCE)". -/
def cr4PceBit : Nat := 8

/-- RDPMC_LENGTH of rule R5, in bytes. -/
def rdpmcLength : Nat := 2

/-- The address just past the last one at which a program byte may stand. 10_state.md R30 leaves the width
of eip open and refuses a program whose bytes would wrap. PRESUMED: 32 bits, the general knowledge that R30
marks (log 3). Safe: an instruction beyond it is refused. -/
def addressLimit : Nat := 2 ^ 32

/-- FREE VALUE (decision D14, log 14): the natural number that the monitor draws at its i-th draw, the
INCREMENT of rule R6. It has no body, so no proof can know it: 60_exceptions.md R335 puts it under no law but
`n >= 0`. -/
opaque drawnIncrement : Nat → Nat

/-- FREE VALUE (93_implementation_defined.md U1, U2, decision D11, log 15): the 40-bit value that a counter
holds after the monitor's i-th draw while its selection is reserved. It has no body. -/
opaque drawnCount : Nat → Counter

end Sys2Proof.Config
end

