-- ==== Sys2Proof/Syntax.lean ====
section
/-! DEFINITION. The instructions: one constructor per row of spec/opcode_table.json (30_encoding.md R96). -/

namespace Sys2Proof

/-- The complete table has one row. All three operands of RDPMC are implicit (30_encoding.md R81), so the
constructor carries none. -/
inductive Instr where
  /-- RDPMC, bytes 0F 33: read an event counter into EDX:EAX (42_rdpmc.md R300). -/
  | rdpmc
  deriving DecidableEq, Repr

end Sys2Proof
end

