-- ==== Sys2Proof/WellFormed.lean ====
section
/-! DEFINITION. Well-formed instructions. An instruction of this set has no field (30_encoding.md R81, R83),
so an `Instr` has nothing that could be out of range; what can be ill-formed is the byte sequence offered as
an instruction's encoding, and that is checked here. -/

namespace Sys2Proof

/-- Every field of the instruction is in range. RDPMC has no field, so there is nothing to check. -/
def Instr.wellFormed : Instr → Bool
  | .rdpmc => true

/-- A byte sequence has the length of an instruction: "every instruction is two bytes long" (30_encoding.md
R80, R86). -/
def encodingLengthOk (bytes : List Byte) : Bool :=
  bytes.length == Config.rdpmcLength

end Sys2Proof
end

