-- ==== Sys2Proof/Decode.lean ====
section
/-! DEFINITION. The decoder, total on any bytes and refusing by name, and the encoder
(30_encoding.md R80 to R86). -/

namespace Sys2Proof

/-- Why the decoder refuses. Every one of these is the model's verdict and "says nothing of the chip"
(30_encoding.md R82): safe. -/
inductive DecodeError where
  /-- Fewer than two bytes remain (70_reset_and_hazards.md R377 (c)). -/
  | truncated
  /-- An instruction preceded by a modifier byte: every such form is refused by name (30_encoding.md R85,
  decision D18, log 21). -/
  | prefixedForm (first : Byte)
  /-- RDTSC, named by the source and given no semantics (30_encoding.md R95, 42_rdpmc.md R310). -/
  | rdtsc
  /-- Any other bytes: not in this spec (30_encoding.md R82). -/
  | notInSpec (first second : Byte)
  deriving DecidableEq, Repr

/-- The operand-size, address-size, segment, repeat and LOCK bytes that rule R85 names by their kind.
PRESUMED (log 21): their values are the architecture's general knowledge. Only the NAME of a refusal rests on
this list. -/
def modifierBytes : List Byte :=
  [0x66, 0x67, 0x26, 0x2E, 0x36, 0x3E, 0x64, 0x65, 0xF0, 0xF2, 0xF3]

/-- The first opcode byte of RDPMC (30_encoding.md R80). -/
def rdpmcByte0 : Byte := 0x0F

/-- The second opcode byte of RDPMC (30_encoding.md R80). -/
def rdpmcByte1 : Byte := 0x33

/-- The second opcode byte of RDTSC. PRESUMED (93_implementation_defined.md G13, log 21): it only names a
refusal. -/
def rdtscByte1 : Byte := 0x31

/-- Decode one instruction from the bytes at rising addresses, and give the bytes after it. It recognises
the byte pair 0F 33 and nothing else (30_encoding.md R82); it looks at no mode and no code size (R84). -/
def decode : List Byte → Except DecodeError (Instr × List Byte)
  | b0 :: b1 :: rest =>
    if b0 = rdpmcByte0 ∧ b1 = rdpmcByte1 then .ok (.rdpmc, rest)
    else if b0 = rdpmcByte0 ∧ b1 = rdtscByte1 then .error .rdtsc
    else if b0 ∈ modifierBytes then .error (.prefixedForm b0)
    else .error (.notInSpec b0 b1)
  | _ => .error .truncated

/-- The bytes of an instruction at rising addresses (30_encoding.md R80, decision D16, log 19). -/
def encode : Instr → List Byte
  | .rdpmc => [rdpmcByte0, rdpmcByte1]

/-- The bytes, at rising addresses, of an instruction whose table word is `w` on `nbits` bits. The table
writes its two bytes as one word with the first byte (lowest address) most significant (its "byte_order",
log 19). Bytes that the table gives no bits are zeros, up to the longest instruction's two bytes. -/
def tableBytes (nbits w : Nat) : List Byte :=
  let n := nbits / 8
  (List.range n).map (fun i => BitVec.ofNat 8 (w >>> (8 * (n - 1 - i))))
    ++ List.replicate (Config.rdpmcLength - n) 0

/-- The instruction that the decoder reads from the word `w` of spec/opcode_table.json. -/
def decodeTableWord (nbits w : Nat) : Option Instr :=
  match decode (tableBytes nbits w) with
  | .ok (i, _) => some i
  | .error _ => none

end Sys2Proof
end

