-- ==== Sys2Proof/Machine/State.lean ====
section
/-! DEFINITION. The state of the machine as plain data (00_scope.md R12, 10_state.md, 70_reset_and_hazards.md
R361), the reasons a step can stop, and the state after reset. -/

namespace Sys2Proof.Machine

/-- The two event counters. `zero` is ctr[0]: CTR0, Counter 0, PerfCntr0, Event Counter [0]; `one` is ctr[1]:
CTR1, Counter 1, PerfCntr1, Event Counter [1] (10_state.md R20, R21). -/
inductive CounterId where
  | zero
  | one
  deriving DecidableEq, Repr

/-- FAMILY, the parameter of rule R6 (00_scope.md R2, decision D1, log 1). -/
inductive Family where
  /-- "Superscalar (Pentium(R) Family)". -/
  | pentium
  /-- "Dynamic Execution (P6-Family)". -/
  | p6
  deriving DecidableEq, Repr

/-- The operating modes that the source names (10_state.md R36). -/
inductive Mode where
  | protectedMode
  | realAddress
  /-- VM mode. -/
  | vm
  deriving DecidableEq, Repr

/-- The code size: "RDPMC will execute in 16 bit code" (10_state.md R28, R36). -/
inductive CodeSize where
  | bits16
  | bits32
  deriving DecidableEq, Repr

/-- What the source describes of PerfEvtSel0 or PerfEvtSel1: an event number and a unit mask, held as
abstract fields (10_state.md R39, R41). -/
structure PerfEvtSel where
  evt : Byte
  umsk : Byte
  deriving DecidableEq, Repr

/-- The event selection of each counter. A machine is of one family for the whole run (rule R6), and has the
selection registers of that family only: the tables cannot be mixed (70_reset_and_hazards.md R375). -/
inductive Selections where
  /-- The two 6-bit codes sel[0] and sel[1] of the Pentium family, which CESR holds (10_state.md R37, R38). -/
  | pentium (sel0 sel1 : PentiumCode)
  /-- The P6 family's PerfEvtSel0 (counter 0) and PerfEvtSel1 (counter 1) (10_state.md R39). -/
  | p6 (perfEvtSel0 perfEvtSel1 : PerfEvtSel)
  deriving DecidableEq, Repr

/-- Everything the spec gives the machine (00_scope.md R12, 70_reset_and_hazards.md R361), and one field of
the model's own, `draws`. -/
@[ext]
structure State where
  /-- EAX, the low-order half of RDPMC's result (10_state.md R26). -/
  eax : Reg
  /-- ECX, RDPMC's counter index (10_state.md R26). -/
  ecx : Reg
  /-- EDX, the high-order half of RDPMC's result (10_state.md R26). -/
  edx : Reg
  /-- The address of the executing instruction's first byte, a natural number (10_state.md R30, log 3). -/
  eip : Nat
  /-- ctr[0] (10_state.md R20). -/
  ctr0 : Counter
  /-- ctr[1] (10_state.md R20). -/
  ctr1 : Counter
  /-- FAMILY and the event selections of both counters (10_state.md R38, R39). -/
  selections : Selections
  /-- CR4.PCE, bit 8 of CR4, held as one Boolean (10_state.md R32, R34). -/
  cr4Pce : Bool
  /-- CR4.TSD, whose position the source does not give (10_state.md R33). -/
  cr4Tsd : Bool
  /-- CPL, the current privilege level, 0 to 3 (10_state.md R35, decision D10, log 10). -/
  cpl : Fin 4
  /-- The operating mode (10_state.md R36). -/
  mode : Mode
  /-- The code size (10_state.md R28). -/
  codeSize : CodeSize
  /-- The program bytes by address, addresses strictly rising (20_memory.md R61, log 30). -/
  mem : List Host.Cell
  /-- The base address of the program bytes (20_memory.md R61, R66). -/
  progBase : Nat
  /-- The MODEL's own field (log 36): how many draws the monitor has made, so that each one is a fresh
  argument of Config's free values. -/
  draws : Nat
  deriving DecidableEq, Repr

/-- Why a run stops with a fault. The one exception in scope is #GP(0) (60_exceptions.md R320). -/
inductive Fault where
  /-- Raised by RDPMC when its privilege check or its index check fails: `fault(GP, error_code, at = eip)`
  and the state kept (60_exceptions.md R322, R323, 70_reset_and_hazards.md R377 (b)). Safe: the source
  describes no entry, and the model says nothing of a run after it (log 6). -/
  | generalProtection (errorCode : Nat) (eip : Nat) (kept : State)
  deriving DecidableEq, Repr

/-- Why the model has no meaning for what stands at eip (70_reset_and_hazards.md R377). All are safe: the
model is silent where the chip goes on. -/
inductive Refusal where
  /-- Raised by an arm of `exec` whose instruction has no meaning yet; every instruction has one. -/
  | notModelled (mnemonic : String)
  /-- Raised by `step` when eip is just past the last program byte: the run is Final and there is no next
  instruction (70_reset_and_hazards.md R377 (a), log 29). -/
  | programEnd (eip : Nat)
  /-- Raised by `step` on a fetch outside the program bytes (20_memory.md R61). -/
  | outsideProgram (eip : Nat)
  /-- Raised by `step` when the instruction's bytes would wrap (10_state.md R30, decision D3, log 3). -/
  | addressWrap (eip : Nat)
  /-- Raised by `step` when the decoder refuses the bytes at eip (30_encoding.md R82, R85, R95). -/
  | undecoded (eip : Nat) (why : DecodeError)
  deriving DecidableEq, Repr

/-- The event selections after reset, for each family: 10_state.md R50 leaves them unspecified, all zero is this
model's DESIGN CHOICE (log 17). For the P6 family the pair (00H, 00H) is no listed encoding, so its counters are
undefined until an event is selected. -/
def Selections.reset : Family → Selections
  | .pentium => .pentium 0 0
  | .p6 => .p6 { evt := 0, umsk := 0 } { evt := 0, umsk := 0 }

/-- The machine of either family after reset. The source gives no initial value for anything (10_state.md R50,
70_reset_and_hazards.md R360): CR4.PCE = 0 and CPL = 0 are the spec's own choice, the mode and code size go
with them (log 18); every other value is this model's DESIGN CHOICE (log 17). No program is placed (log 31). -/
def State.resetOf (f : Family) : State where
  eax := 0
  ecx := 0
  edx := 0
  eip := 0
  ctr0 := 0
  ctr1 := 0
  selections := Selections.reset f
  cr4Pce := false
  cr4Tsd := false
  cpl := 0
  mode := .realAddress
  codeSize := .bits16
  mem := []
  progBase := 0
  draws := 0

/-- The machine after reset, as the host's interface names it: one state, of the Pentium family. FAMILY is an
argument that the source leaves open (decision D1, log 1); `State.resetOf` has it. -/
def State.reset : State :=
  State.resetOf .pentium

end Sys2Proof.Machine
end

