-- ==== Sys2Proof/Machine/Ops.lean ====
section
/-! DEFINITION. The named operations over memory, the counters, CR4 and the instruction pointer, and taking
the one exception of the spec, #GP(0). -/

namespace Sys2Proof.Machine

/-! ### Memory: the program bytes (20_memory.md R61) -/

/-- What an address that is not listed reads as: no value. A fetch outside the program bytes is refused
(20_memory.md R61, log 30). Safe. -/
def Memory.unlisted : Option Byte := none

/-- The canonical form: addresses strictly rising, so that equal memories are equal lists. An unlisted
address reads as no value, so no byte is one that an entry may not hold. -/
abbrev Memory.wf (m : List Host.Cell) : Prop :=
  m.Pairwise (fun a b => a.1 < b.1)

/-- The byte at an address, if the program has one there. -/
def Memory.read : List Host.Cell → Nat → Option Byte
  | [], _ => Memory.unlisted
  | (x, c) :: r, a => if x = a then some c else Memory.read r a

/-- Place a byte at an address, keeping the canonical form. No instruction in scope stores (20_memory.md R60,
R71); the launch and `withFetchWord` place the program bytes with it. -/
def Memory.write : List Host.Cell → Nat → Byte → List Host.Cell
  | [], a, b => [(a, b)]
  | (x, c) :: r, a, b =>
    if a < x then (a, b) :: (x, c) :: r
    else if a = x then (a, b) :: r
    else (x, c) :: Memory.write r a b

/-- Place bytes at rising addresses from `a`. -/
def Memory.writeBytes (m : List Host.Cell) (a : Nat) : List Byte → List Host.Cell
  | [] => m
  | b :: bs => Memory.writeBytes (Memory.write m a b) (a + 1) bs

/-- The program bytes from address `a` on, at most `n` of them, up to the first address without one. -/
def Memory.window (m : List Host.Cell) (a : Nat) : Nat → List Byte
  | 0 => []
  | n + 1 =>
    match Memory.read m a with
    | none => []
    | some b => b :: Memory.window m (a + 1) n

/-- The address just past the last program byte; the base address when the program is empty
(70_reset_and_hazards.md R377 (a)). -/
def State.programEnd (s : State) : Nat :=
  match s.mem.getLast? with
  | none => s.progBase
  | some c => c.1 + 1

/-! ### The counters (10_state.md R20 to R24) -/

/-- The value of ctr[k]. Reading it changes nothing (10_state.md R24, decision D8, log 8). -/
def State.ctr (s : State) : CounterId → Counter
  | .zero => s.ctr0
  | .one => s.ctr1

/-- The state with ctr[k] holding `v`. -/
def State.setCtr (s : State) (k : CounterId) (v : Counter) : State :=
  match k with
  | .zero => { s with ctr0 := v }
  | .one => { s with ctr1 := v }

/-! ### CR4 and FAMILY -/

/-- The bits of CR4 whose position the source gives: bit 8 is PCE, and no other position is given
(10_state.md R32 to R34). -/
def State.cr4Bit (s : State) (n : Nat) : Option Bool :=
  if n = Config.cr4PceBit then some s.cr4Pce else none

/-- FAMILY, as the selection registers show it (00_scope.md R2, log 1). -/
def State.family (s : State) : Family :=
  match s.selections with
  | .pentium _ _ => .pentium
  | .p6 _ _ => .p6

/-! ### The instruction pointer and #GP(0) -/

/-- An instruction that completes moves on to the byte after it: `eip <- eip + n` (10_state.md R30,
42_rdpmc.md R308, decision D3, log 3). -/
def State.advance (s : State) (n : Nat) : State :=
  { s with eip := s.eip + n }

/-- `raise #GP(0)`: the step answers `fault(GP, error_code = 0, at = eip)` with the state as it was before
the instruction (60_exceptions.md R322, R323, decisions D5 and D6, logs 5 and 6). The source describes no
vector, no saved state, no handler and no return, so there is none to model (R323, R326). -/
def raiseGeneralProtection (s : State) : Host.Outcome State Fault Refusal :=
  .fault (.generalProtection 0 s.eip s)

end Sys2Proof.Machine
end

