-- ==== Sys2Proof/Machine/Operands.lean ====
section
/-! DEFINITION. The operand forms: RDPMC's implicit index ECX and its implicit destination EDX:EAX
(30_encoding.md R83). They are the same in every mode and code size (10_state.md R28, 30_encoding.md R84). -/

namespace Sys2Proof.Machine

/-- The counter that a value of ECX names: all 32 bits count, 0 is ctr[0], 1 is ctr[1], and every other value
names no counter (10_state.md R22, 42_rdpmc.md R303). -/
def counterIndex (ecx : Reg) : Option CounterId :=
  if ecx = 0 then some .zero
  else if ecx = 1 then some .one
  else none

/-- The 64-bit value of EDX:EAX: EDX in bits 63 to 32, EAX in bits 31 to 0 (00_scope.md R9). -/
def State.pair (s : State) : Pair :=
  s.edx ++ s.eax

/-- Write a 64-bit value to EDX:EAX: "EDX is loaded with the high-order 32 bit, and EAX with the low order 32
bits" (00_scope.md R9). Both registers are written whole in every mode (10_state.md R28, 42_rdpmc.md R306). -/
def State.setPair (s : State) (v : Pair) : State :=
  { s with eax := v.extractLsb' 0 32, edx := v.extractLsb' 32 32 }

/-- Placing 40 bits in 64: bits 31 to 8 of EDX receive zeros (42_rdpmc.md R301, decision D2, log 2). -/
def placeCounter (v : Counter) : Pair :=
  v.zeroExtend 64

end Sys2Proof.Machine
end

