-- ==== Sys2Proof/Machine/Privilege.lean ====
section
/-! DEFINITION. Privilege: RDPMC's check (42_rdpmc.md R302), what each level may do as far as the source says
(60_exceptions.md R332), and what the operating mode says of CPL (10_state.md R36). -/

namespace Sys2Proof.Machine

/-- RDPMC's privilege check: allowed when CPL = 0, and when CR4.PCE = 1 (42_rdpmc.md R302). The test is "CPL
<> 0", not "CPL = 3" (90_conflicts.md C10). -/
def rdpmcPermitted (s : State) : Bool :=
  s.cr4Pce || s.cpl == 0

/-- The actions that 60_exceptions.md R332 tabulates. -/
inductive Action where
  | rdpmc
  | rdtsc
  | accessCesr
  | writePce
  deriving DecidableEq, Repr

/-- The entries of the table of 60_exceptions.md R332. -/
inductive Permission where
  | yes
  /-- #GP(0). -/
  | generalProtection
  /-- "no; what happens is not stated", or "not possible". -/
  | no
  | notStated
  deriving DecidableEq, Repr

/-- What the current privilege level may do, as far as the source says: the table of 60_exceptions.md R332.
RDTSC at CPL 3 follows CR4.TSD (42_rdpmc.md R310, decision D19, log 22); CESR is not accessible at CPL 3
(R311). -/
def permission (s : State) : Action → Permission
  | .rdpmc => if rdpmcPermitted s then .yes else .generalProtection
  | .rdtsc => if s.cpl = 3 then (if s.cr4Tsd then .no else .yes) else .notStated
  | .accessCesr => if s.cpl = 3 then .no else .notStated
  | .writePce => .notStated

/-- The CPL that an operating mode runs at, where the mode fixes it: 0 in real-address mode and 3 in VM mode
(10_state.md R36, decision D9, log 9). -/
def modeCpl : Mode → Option (Fin 4)
  | .protectedMode => none
  | .realAddress => some 0
  | .vm => some 3

/-- The state's CPL is the one that its operating mode runs at. RDPMC reads CPL alone (10_state.md R36: the
mode "enters RDPMC's semantics only through CPL"), so this is an invariant and no check of the machine. -/
def modeFixesCpl (s : State) : Bool :=
  match modeCpl s.mode with
  | none => true
  | some c => s.cpl == c

end Sys2Proof.Machine
end

