-- ==== Sys2Proof/Machine/PentiumEvents.lean ====
section
/-! DEFINITION. Table 6-1, the Pentium family's events (40_events_pentium.md R100 to R178), as data, and how a
code selects an event (R101). The names are the only definitions of the events (R106): no rule computes a count
from them. -/

namespace Sys2Proof.Machine

/-- The values of the column "Occurrence or Duration" (40_events_pentium.md R103, decision D21, log 24). -/
inductive EventKind where
  /-- OCCURRENCE: one is added each time the named thing happens. -/
  | occurrence
  /-- DURATION: one is added for each processor clock during which the named condition holds. -/
  | duration
  deriving DecidableEq, Repr

/-- A row of Table 6-1, column by column (40_events_pentium.md R100). -/
structure PentiumRow where
  serial : Nat
  /-- The column "Encoding". -/
  code : PentiumCode
  /-- "Yes" in the column "Counter 0". -/
  counter0 : Bool
  /-- "Yes" in the column "Counter 1". -/
  counter1 : Bool
  event : String
  /-- The last column; empty in the rows that are "Reserved" (30_encoding.md R90). -/
  kind : Option EventKind
  deriving DecidableEq, Repr

/-- "Yes" in the column of counter `k`. -/
def PentiumRow.onCounter (r : PentiumRow) : CounterId → Bool
  | .zero => r.counter0
  | .one => r.counter1

/-- The row says "Reserved": it names no event (40_events_pentium.md R104). -/
def PentiumRow.reserved (r : PentiumRow) : Bool :=
  r.kind.isNone

/-- Rows R110 to R119 of 40_events_pentium.md. -/
def pentiumRows0 : List PentiumRow :=
  [⟨0, 0b000000, true, true, "Data Read", some .occurrence⟩,
   ⟨1, 0b000001, true, true, "Data Write", some .occurrence⟩,
   ⟨2, 0b000010, true, true, "Data TLB Miss", some .occurrence⟩,
   ⟨3, 0b000011, true, true, "Data Read Miss", some .occurrence⟩,
   ⟨4, 0b000100, true, true, "Data Write Miss", some .occurrence⟩,
   ⟨5, 0b000101, true, true, "Write (hit) to M or E state lines", some .occurrence⟩,
   ⟨6, 0b000110, true, true, "Data Cache Lines Written Back", some .occurrence⟩,
   ⟨7, 0b000111, true, true, "External Data Cache Snoops", some .occurrence⟩,
   ⟨8, 0b001000, true, true, "External Data Cache Snoop Hits", some .occurrence⟩,
   ⟨9, 0b001001, true, true, "Memory Accesses in Both Pipes", some .occurrence⟩]

/-- Rows R120 to R129 of 40_events_pentium.md. -/
def pentiumRows1 : List PentiumRow :=
  [⟨10, 0b001010, true, true, "Bank Conflicts", some .occurrence⟩,
   ⟨11, 0b001011, true, true, "Misaligned Data Memory or I/O References", some .occurrence⟩,
   ⟨12, 0b001100, true, true, "Code Read", some .occurrence⟩,
   ⟨13, 0b001101, true, true, "Code TLB Miss", some .occurrence⟩,
   ⟨14, 0b001110, true, true, "Code Cache Miss", some .occurrence⟩,
   ⟨15, 0b001111, true, true, "Any Segment Register Loaded", some .occurrence⟩,
   ⟨16, 0b010000, true, true, "Reserved", none⟩,
   ⟨17, 0b010001, true, true, "Reserved", none⟩,
   ⟨18, 0b010010, true, true, "Branches", some .occurrence⟩,
   ⟨19, 0b010011, true, true, "BTB Predictions", some .occurrence⟩]

/-- Rows R130 to R139 of 40_events_pentium.md. -/
def pentiumRows2 : List PentiumRow :=
  [⟨20, 0b010100, true, true, "Taken Branch or BTB hit.", some .occurrence⟩,
   ⟨21, 0b010101, true, true, "Pipeline Flushes", some .occurrence⟩,
   ⟨22, 0b010110, true, true, "Instructions Executed", some .occurrence⟩,
   ⟨23, 0b010111, true, true, "Instructions Executed in the v-pipe e.g. parallelism/pairing", some .occurrence⟩,
   ⟨24, 0b011000, true, true, "Clocks while a bus cycle is in progress (bus utilization)", some .duration⟩,
   ⟨25, 0b011001, true, true, "Number of clocks stalled due to full write buffers", some .duration⟩,
   ⟨26, 0b011010, true, true, "Pipeline stalled waiting for data memory read", some .duration⟩,
   ⟨27, 0b011011, true, true, "Stall on write to an E or M state line", some .duration⟩,
   ⟨29, 0b011101, true, true, "I/O Read or Write Cycle", some .occurrence⟩,
   ⟨30, 0b011110, true, true, "Non-cacheable memory reads", some .occurrence⟩]

/-- Rows R140 to R149 of 40_events_pentium.md. -/
def pentiumRows3 : List PentiumRow :=
  [⟨31, 0b011111, true, true, "Pipeline stalled because of an address generation interlock", some .duration⟩,
   ⟨32, 0b100000, true, true, "Reserved", none⟩,
   ⟨33, 0b100001, true, true, "Reserved", none⟩,
   ⟨34, 0b100010, true, true, "FLOPs", some .occurrence⟩,
   ⟨35, 0b100011, true, true, "Breakpoint match on DR0 Register", some .occurrence⟩,
   ⟨36, 0b100100, true, true, "Breakpoint match on DR1 Register", some .occurrence⟩,
   ⟨37, 0b100101, true, true, "Breakpoint match on DR2 Register", some .occurrence⟩,
   ⟨38, 0b100110, true, true, "Breakpoint match on DR3 Register", some .occurrence⟩,
   ⟨39, 0b100111, true, true, "Hardware Interrupts", some .occurrence⟩,
   ⟨40, 0b101000, true, true, "Data Read or Data Write", some .occurrence⟩]

/-- Rows R150 to R159 of 40_events_pentium.md. -/
def pentiumRows4 : List PentiumRow :=
  [⟨41, 0b101001, true, true, "Data Read Miss or Data Write Miss", some .occurrence⟩,
   ⟨43, 0b101011, true, false, "MMX(TM) instructions executed in u-pipe", some .occurrence⟩,
   ⟨43, 0b101011, false, true, "MMX instructions executed in v-pipe", some .occurrence⟩,
   ⟨45, 0b101101, true, false, "EMMS instructions executed", some .occurrence⟩,
   ⟨45, 0b101101, false, true, "Transition between MMX instructions and FP instructions", some .occurrence⟩,
   ⟨46, 0b101110, false, true, "Writes to Non-Cacheable Memory", some .occurrence⟩,
   ⟨47, 0b101111, true, false, "Saturating MMX instructions executed", some .occurrence⟩,
   ⟨47, 0b101111, false, true, "Saturations performed", some .occurrence⟩,
   ⟨48, 0b110000, true, false, "Number of Cycles Not in HLT State", some .duration⟩,
   ⟨49, 0b110001, true, false, "MMX instruction data reads", some .occurrence⟩]

/-- Rows R160 to R169 of 40_events_pentium.md. -/
def pentiumRows5 : List PentiumRow :=
  [⟨50, 0b110010, true, false, "Floating Point Stalls", some .duration⟩,
   ⟨50, 0b110010, false, true, "Taken Branches", some .occurrence⟩,
   ⟨51, 0b110011, false, true, "D1 Starvation and one instruction in FIFO", some .occurrence⟩,
   ⟨52, 0b110100, true, false, "MMX instruction data writes", some .occurrence⟩,
   ⟨52, 0b110100, false, true, "MMX instruction data write misses", some .occurrence⟩,
   ⟨53, 0b110101, true, false, "Pipeline flushes due to wrong branch prediction", some .occurrence⟩,
   ⟨53, 0b110101, false, true, "Pipeline flushes due to wrong branch predictions resolved in WB-stage", some .occurrence⟩,
   ⟨54, 0b110110, true, false, "Misaligned data memory reference on MMX instruction", some .occurrence⟩,
   ⟨54, 0b110110, false, true, "Pipeline stalled waiting for MMX instruction data memory read", some .duration⟩,
   ⟨55, 0b110111, true, false, "Returns Predicted Incorrectly", some .occurrence⟩]

/-- Rows R170 to R178 of 40_events_pentium.md. -/
def pentiumRows6 : List PentiumRow :=
  [⟨55, 0b110111, false, true, "Returns Predicted (Correctly and Incorrectly)", some .occurrence⟩,
   ⟨56, 0b111000, true, false, "MMX instruction multiply unit interlock", some .duration⟩,
   ⟨56, 0b111000, false, true, "MOVD/MOVQ store stall due to previous operation", some .duration⟩,
   ⟨57, 0b111001, true, false, "Returns", some .occurrence⟩,
   ⟨57, 0b111001, false, true, "RSB Overflows", some .occurrence⟩,
   ⟨58, 0b111010, true, false, "BTB false entries", some .occurrence⟩,
   ⟨58, 0b111010, false, true, "BTB miss prediction on a Not-Taken Branch", some .occurrence⟩,
   ⟨59, 0b111011, true, false, "Number of clocks stalled due to full write buffers while executing MMX instructions", some .duration⟩,
   ⟨59, 0b111011, false, true, "Stall on MMX instruction write to E or M line", some .duration⟩]

/-- Table 6-1 in the table's order (40_events_pentium.md R100). -/
def pentiumTable : List PentiumRow :=
  pentiumRows0 ++ pentiumRows1 ++ pentiumRows2 ++ pentiumRows3
    ++ pentiumRows4 ++ pentiumRows5 ++ pentiumRows6

/-- The row that a code selects on counter `k`: a row with that Encoding, "Yes" for the counter, and not
"Reserved" (40_events_pentium.md R101, R104; 60_exceptions.md R335). None for the pairs of rule R104's table
(decision D11, log 11). -/
def pentiumSelected (c : PentiumCode) (k : CounterId) : Option PentiumRow :=
  pentiumTable.find? (fun r => r.code == c && r.onCounter k && !r.reserved)

end Sys2Proof.Machine
end

