-- ==== Sys2Proof/Machine/P6Events.lean ====
section
/-! DEFINITION. Table 6-2, the P6 family's events (41_events_p6.md R200 to R269), as data: the unit masks a row
admits (R204, R205), the counters it admits (R206), what it counts (R207), and how an event number and a unit
mask select an event (R201). -/

namespace Sys2Proof.Machine

/-- The column "Unit"; the name of the L2 group is the spec's (41_events_p6.md R209). -/
inductive P6Unit where
  | dcu | ifu | l2 | ebl | fpu | memoryOrdering | decodeRetire | interrupts | branches | stalls
  | segmentLoads | clocks
  deriving DecidableEq, Repr

/-- The column "Unit Mask". -/
inductive MaskRule where
  /-- "00H". -/
  | zeroOnly
  /-- "MESI 0FH": 00H to 0FH, one bit per cache state (41_events_p6.md R204). -/
  | mesi
  /-- "00H (Self) 20H (Any)" (41_events_p6.md R205). -/
  | selfAny
  /-- "00H (Self)" alone: an EBL event excepted from the Any qualifier (41_events_p6.md R205). -/
  | selfOnly
  deriving DecidableEq, Repr

/-- The counters on which an event may be selected (41_events_p6.md R206). -/
inductive CounterRule where
  | either
  /-- "Counter 0 only" or "Counter 1 only". -/
  | only (k : CounterId)
  deriving DecidableEq, Repr

/-- The clocks that Table 6-2 tells apart (41_events_p6.md R207, 70_reset_and_hazards.md R371). -/
inductive Clock where
  | bus
  | processor
  /-- The description says cycles or clocks without saying which. -/
  | unstated
  /-- Whether the row counts cycles at all, or events, is not said: PARTIAL_RAT_STALLS
  (93_implementation_defined.md U6, log 39). -/
  | unsettled
  deriving DecidableEq, Repr

/-- The kind of count, by the wording of the row's description (41_events_p6.md R207). -/
inductive P6Count where
  /-- One is added per counted thing. -/
  | perThing
  /-- One is added per such clock while the condition holds. -/
  | perClock (c : Clock)
  /-- BUS_DRDY_CLOCKS: bus clocks under unit mask 00H, processor clocks under 20H (41_events_p6.md R230). -/
  | clocksByMask
  /-- DCU_MISS_OUTSTANDING: weighted cycles (41_events_p6.md R214). -/
  | weightedCycles
  /-- PARTIAL_RAT_STALLS: the source does not say which, and the kind is left unsettled (41_events_p6.md R267,
  93_implementation_defined.md U6, log 39). -/
  | cyclesOrEvents
  deriving DecidableEq, Repr

/-- A row of Table 6-2 (41_events_p6.md R200, R208). -/
structure P6Row where
  unit : P6Unit
  /-- The column "Event Num.". -/
  evt : Byte
  mnemonic : String
  masks : MaskRule
  counters : CounterRule
  description : String
  /-- The further text of the row and the column "Comments". -/
  comments : List String
  count : P6Count
  /-- The unit of the count, as the row rule names it. -/
  unitOfCount : String
  deriving DecidableEq, Repr

/-- The unit masks that a row admits (41_events_p6.md R204, R205; every other mask is reserved: R203,
decision D12, log 12). -/
def MaskRule.admits : MaskRule → Byte → Bool
  | .zeroOnly, u => u == 0
  | .mesi, u => u.toNat ≤ 0x0F
  | .selfAny, u => u == 0 || u == 0x20
  | .selfOnly, u => u == 0

/-- The counters that a row admits (41_events_p6.md R206; the other counter is reserved: R203, decision D13,
log 13). -/
def CounterRule.admits : CounterRule → CounterId → Bool
  | .either, _ => true
  | .only k, j => k == j

/-- The cache states of the MESI protocol (41_events_p6.md R204). -/
inductive CacheState where
  | m | e | s | i
  deriving DecidableEq, Repr

/-- The bit of the unit mask that stands for a cache state (10_state.md R40, 41_events_p6.md R204). -/
def CacheState.maskBit : CacheState → Nat
  | .m => 3
  | .e => 2
  | .s => 1
  | .i => 0

/-- The cache states that a MESI unit mask counts (41_events_p6.md R204). -/
def countedStates (u : Byte) : List CacheState :=
  [CacheState.m, .e, .s, .i].filter (fun c => u.getLsbD c.maskBit)

/-- Whose transactions an EBL event counts (10_state.md R40, 41_events_p6.md R205). -/
inductive BusAgent where
  /-- "transactions that are self generated" -/
  | self
  /-- "transactions that result from any processor on the bus" -/
  | any
  deriving DecidableEq, Repr

/-- Bit 5 of the unit mask: Self (0) or Any (1) (41_events_p6.md R205). -/
def countedAgent (u : Byte) : BusAgent :=
  if u.getLsbD 5 then .any else .self

/-- How the unit mask qualifies the event (41_events_p6.md R201, R204, R205). -/
inductive Qualifier where
  | plain
  | states (l : List CacheState)
  | agent (a : BusAgent)
  deriving DecidableEq, Repr

/-- The qualification of a row by a unit mask that it admits. -/
def P6Row.qualifier (r : P6Row) (u : Byte) : Qualifier :=
  match r.masks with
  | .zeroOnly => .plain
  | .mesi => .states (countedStates u)
  | .selfAny => .agent (countedAgent u)
  | .selfOnly => .agent .self

/-- The clock that a row counts under a unit mask, for a row that counts clocks (70_reset_and_hazards.md R371,
41_events_p6.md R207). A row of which the source does not say whether it counts cycles or events has an answer of
its own, not that of a row that counts no clock (DESIGN CHOICE, 93_implementation_defined.md U6, log 39). -/
def P6Row.clock (r : P6Row) (u : Byte) : Option Clock :=
  match r.count with
  | .perThing => none
  | .perClock c => some c
  | .clocksByMask => some (if u = 0x20 then .processor else .bus)
  | .weightedCycles => some .unstated
  | .cyclesOrEvents => some .unsettled

/-- Rows R210 to R219 of 41_events_p6.md. -/
def p6Rows0 : List P6Row :=
  [⟨.dcu, 0x43, "DATA_MEM_REFS", .zeroOnly, .either,
     "All memory references, both cacheable and non- cacheable",
     [], .perThing, "references"⟩,
   ⟨.dcu, 0x45, "DCU_LINES_IN", .zeroOnly, .either,
     "Total lines allocated in the DCU.",
     [], .perThing, "lines"⟩,
   ⟨.dcu, 0x46, "DCU_M_LINES_IN", .zeroOnly, .either,
     "Number of M state lines allocated in the DCU.",
     [], .perThing, "lines"⟩,
   ⟨.dcu, 0x47, "DCU_M_LINES_OUT", .zeroOnly, .either,
     "Number of M state lines evicted from the DCU. This includes evictions via snoop HITM, intervention or replacement.",
     [], .perThing, "lines"⟩,
   ⟨.dcu, 0x48, "DCU_MISS_OUTSTANDING", .zeroOnly, .either,
     "Weighted number of cycles while a DCU miss is outstanding.",
     ["An access that also misses the L2 is short-changed by 2 cycles. (i.e. if counts N cycles, should be N+2 cycles.)", "Subsequent loads to the same cache line will not result in any additional counts.", "Count value not precise, but still useful."], .weightedCycles, "weighted cycles"⟩,
   ⟨.ifu, 0x80, "IFU_IFETCH", .zeroOnly, .either,
     "Number of instruction fetches, both cacheable and non-cacheable.",
     [], .perThing, "fetches"⟩,
   ⟨.ifu, 0x81, "IFU_IFETCH_MISS", .zeroOnly, .either,
     "Number of instruction fetch misses.",
     [], .perThing, "misses"⟩,
   ⟨.ifu, 0x85, "ITLB_MISS", .zeroOnly, .either,
     "Number of ITLB misses.",
     [], .perThing, "misses"⟩,
   ⟨.ifu, 0x86, "IFU_MEM_STALL", .zeroOnly, .either,
     "Number of cycles that the instruction fetch pipe stage is stalled, including cache misses, ITLB misses, ITLB faults, and victim cache evictions.",
     [], .perClock .unstated, "cycles"⟩,
   ⟨.ifu, 0x87, "ILD_STALL", .zeroOnly, .either,
     "Number of cycles that the instruction length decoder is stalled.",
     [], .perClock .unstated, "cycles"⟩]

/-- Rows R220 to R229 of 41_events_p6.md. -/
def p6Rows1 : List P6Row :=
  [⟨.l2, 0x29, "L2_LD", .mesi, .either,
     "Number of L2 data loads.",
     [], .perThing, "loads"⟩,
   ⟨.l2, 0x2A, "L2_ST", .mesi, .either,
     "Number of L2 data stores.",
     [], .perThing, "stores"⟩,
   ⟨.l2, 0x24, "L2_LINES_IN", .zeroOnly, .either,
     "Number of lines allocated in the L2.",
     [], .perThing, "lines"⟩,
   ⟨.l2, 0x26, "L2_LINES_OUT", .zeroOnly, .either,
     "Number of lines removed from the L2 for any reason.",
     [], .perThing, "lines"⟩,
   ⟨.l2, 0x25, "L2_M_LINES_INM", .zeroOnly, .either,
     "Number of modified lines allocated in the L2.",
     [], .perThing, "lines"⟩,
   ⟨.l2, 0x27, "L2_M_LINES_OUTM", .zeroOnly, .either,
     "Number of modified lines removed from the L2 for any reason.",
     [], .perThing, "lines"⟩,
   ⟨.l2, 0x2E, "L2_RQSTS", .mesi, .either,
     "Number of L2 requests.",
     [], .perThing, "requests"⟩,
   ⟨.l2, 0x21, "L2_ADS", .zeroOnly, .either,
     "Number of L2 address strobes.",
     [], .perThing, "address strobes"⟩,
   ⟨.l2, 0x22, "L2_DBUS_BUSY", .zeroOnly, .either,
     "Number of cycles during which the data bus was busy.",
     [], .perClock .unstated, "cycles"⟩,
   ⟨.l2, 0x23, "L2_DBUS_BUSY_RD", .zeroOnly, .either,
     "Number of cycles during which the data bus was busy transferring data from L2 to the processor.",
     [], .perClock .unstated, "cycles"⟩]

/-- Rows R230 to R239 of 41_events_p6.md. -/
def p6Rows2 : List P6Row :=
  [⟨.ebl, 0x62, "BUS_DRDY_CLOCKS", .selfAny, .either,
     "Number of clocks during which DRDY is asserted.",
     ["Unit Mask = 00H counts bus clocks when the processor is driving DRDY.", "Unit Mask = 20H counts in processor clocks when any agent is driving DRDY."], .clocksByMask, "clocks"⟩,
   ⟨.ebl, 0x63, "BUS_LOCK_CLOCKS", .selfAny, .either,
     "Number of clocks during which LOCK is asserted",
     ["Always counts in processor clocks"], .perClock .processor, "processor clocks"⟩,
   ⟨.ebl, 0x66, "BUS_TRAN_RFO", .selfAny, .either,
     "Number of read for ownership transactions.",
     [], .perThing, "transactions"⟩,
   ⟨.ebl, 0x68, "BUS_TRAN_IFETCH", .selfAny, .either,
     "Number of instruction fetch transactions.",
     [], .perThing, "transactions"⟩,
   ⟨.ebl, 0x69, "BUS_TRAN_INVAL", .selfAny, .either,
     "Number of invalidate transactions.",
     [], .perThing, "transactions"⟩,
   ⟨.ebl, 0x6A, "BUS_TRAN_PWR", .selfAny, .either,
     "Number of partial write transactions.",
     [], .perThing, "transactions"⟩,
   ⟨.ebl, 0x6B, "BUS_TRANS_P", .selfAny, .either,
     "Number of partial transactions.",
     [], .perThing, "transactions"⟩,
   ⟨.ebl, 0x6C, "BUS_TRANS_IO", .selfAny, .either,
     "Number of I/O transactions.",
     [], .perThing, "transactions"⟩,
   ⟨.ebl, 0x6D, "BUS_TRAN_DEF", .selfAny, .either,
     "Number of deferred transactions.",
     [], .perThing, "transactions"⟩,
   ⟨.ebl, 0x6E, "BUS_TRAN_BURST", .selfAny, .either,
     "Number of burst transactions.",
     [], .perThing, "transactions"⟩]

/-- Rows R240 to R249 of 41_events_p6.md. -/
def p6Rows3 : List P6Row :=
  [⟨.ebl, 0x70, "BUS_TRAN_ANY", .selfAny, .either,
     "Number of all transactions.",
     [], .perThing, "transactions"⟩,
   ⟨.ebl, 0x6F, "BUS_TRAN_MEM", .selfAny, .either,
     "Number of memory transactions",
     [], .perThing, "transactions"⟩,
   ⟨.ebl, 0x61, "BUS_BNR_DRV", .selfOnly, .either,
     "Number of bus clock cycles during which this processor is driving the BNR pin.",
     [], .perClock .bus, "bus clock cycles"⟩,
   ⟨.ebl, 0x7A, "BUS_HIT_DRV", .selfOnly, .either,
     "Number of bus clock cycles during which this processor is driving the HIT pin. Includes cycles due to snoop stalls.",
     [], .perClock .bus, "bus clock cycles"⟩,
   ⟨.ebl, 0x7E, "BUS_SNOOP_STALL", .selfOnly, .either,
     "Number of clock cycles during which the bus is snoop stalled.",
     [], .perClock .unstated, "clock cycles"⟩,
   ⟨.fpu, 0xC1, "FLOPS", .zeroOnly, .only .zero,
     "Number of computational floating-point operations retired.",
     ["Counter 0 only"], .perThing, "operations"⟩,
   ⟨.fpu, 0x10, "FP_COMP_OPS_EXE", .zeroOnly, .only .zero,
     "Number of computational floating-point operations executed.",
     ["Counter 0 only."], .perThing, "operations"⟩,
   ⟨.fpu, 0x11, "FP_ASSIST", .zeroOnly, .only .one,
     "Number of floating-point exception cases handled by microcode.",
     ["Counter 1 only."], .perThing, "cases"⟩,
   ⟨.fpu, 0x12, "MUL", .zeroOnly, .only .one,
     "Number of multiplies.",
     ["Counter 1 only."], .perThing, "multiplies"⟩,
   ⟨.fpu, 0x13, "DIV", .zeroOnly, .only .one,
     "Number of divides.",
     ["Counter 1 only."], .perThing, "divides"⟩]

/-- Rows R250 to R259 of 41_events_p6.md. -/
def p6Rows4 : List P6Row :=
  [⟨.fpu, 0x14, "CYCLES_DIV_BUSY", .zeroOnly, .only .zero,
     "Number of cycles during which the divider is busy.",
     ["Counter 0 only."], .perClock .unstated, "cycles"⟩,
   ⟨.memoryOrdering, 0x03, "LD_BLOCKS", .zeroOnly, .either,
     "Number of store buffer blocks",
     [], .perThing, "blocks"⟩,
   ⟨.memoryOrdering, 0x04, "SB_DRAINS", .zeroOnly, .either,
     "Number of store buffer drain cycles.",
     [], .perClock .unstated, "cycles"⟩,
   ⟨.memoryOrdering, 0x05, "MISALIGN_MEM_REF", .zeroOnly, .either,
     "Number of misaligned data memory references.",
     [], .perThing, "references"⟩,
   ⟨.decodeRetire, 0xC0, "INST_RETIRED", .zeroOnly, .either,
     "Number of instructions retired.",
     [], .perThing, "instructions"⟩,
   ⟨.decodeRetire, 0xC2, "UOPS_RETIRED", .zeroOnly, .either,
     "Number of micro-ops retired.",
     [], .perThing, "micro-ops"⟩,
   ⟨.decodeRetire, 0xD0, "INST_DECODER", .zeroOnly, .either,
     "Number of instructions decoded.",
     [], .perThing, "instructions"⟩,
   ⟨.interrupts, 0xC8, "HW_INT_RX", .zeroOnly, .either,
     "Number of hardware interrupts received.",
     [], .perThing, "interrupts"⟩,
   ⟨.interrupts, 0xC6, "CYCLES_INT_MASKED", .zeroOnly, .either,
     "Number of processor cycles for which interrupts are disabled.",
     [], .perClock .processor, "processor cycles"⟩,
   ⟨.branches, 0xC4, "BR_INST_RETIRED", .zeroOnly, .either,
     "Number of branch instructions retired.",
     [], .perThing, "instructions"⟩]

/-- Rows R260 to R269 of 41_events_p6.md. -/
def p6Rows5 : List P6Row :=
  [⟨.branches, 0xC5, "BR_MISS_PRED_RETIRED", .zeroOnly, .either,
     "Number of mispredicted branches retired.",
     [], .perThing, "branches"⟩,
   ⟨.branches, 0xC9, "BR_TAKEN_RETIRED", .zeroOnly, .either,
     "Number of taken branches retired.",
     [], .perThing, "branches"⟩,
   ⟨.branches, 0xCA, "BR_MISS_PRED_TAKEN_RET", .zeroOnly, .either,
     "Number of taken mispredictions branches retired.",
     [], .perThing, "branches"⟩,
   ⟨.branches, 0xE0, "BR_INST_DECODED", .zeroOnly, .either,
     "Number of branch instructions decoded.",
     [], .perThing, "instructions"⟩,
   ⟨.branches, 0xE4, "BR_BOGUS", .zeroOnly, .either,
     "Number of bogus branches.",
     [], .perThing, "branches"⟩,
   ⟨.branches, 0xE6, "BACLEARS", .zeroOnly, .either,
     "Number of time BACLEAR is asserted",
     [], .perThing, "assertions"⟩,
   ⟨.stalls, 0xA2, "RESOURCE_STALLS", .zeroOnly, .either,
     "Number of cycles during which there are resource related stalls.",
     [], .perClock .unstated, "cycles"⟩,
   ⟨.stalls, 0xD2, "PARTIAL_RAT_STALLS", .zeroOnly, .either,
     "Number of cycles or events for partial stalls",
     [], .cyclesOrEvents, "cycles or events"⟩,
   ⟨.segmentLoads, 0x06, "SEGMENT_REG_LOADS", .zeroOnly, .either,
     "Number of segment register loads",
     [], .perThing, "loads"⟩,
   ⟨.clocks, 0x79, "CPU_CLK_UNHALTED", .zeroOnly, .either,
     "Number of cycles during which the processor is not halted",
     [], .perClock .unstated, "cycles"⟩]

/-- Table 6-2 in the table's order (41_events_p6.md R200). -/
def p6Table : List P6Row :=
  p6Rows0 ++ p6Rows1 ++ p6Rows2 ++ p6Rows3 ++ p6Rows4 ++ p6Rows5

/-- The row that an event number and a unit mask select on counter `k`: a row with that Event Num. that
admits the mask and the counter (41_events_p6.md R201). None for a reserved encoding (R203). -/
def p6Selected (sel : PerfEvtSel) (k : CounterId) : Option P6Row :=
  p6Table.find? (fun r => r.evt == sel.evt && r.masks.admits sel.umsk && r.counters.admits k)

end Sys2Proof.Machine
end

