-- ==== Sys2Proof/Machine/Selection.lean ====
section
/-! DEFINITION. What each counter counts: the event its selection names, whether the selection is legal
(60_exceptions.md R335), and when a legal selection counts nothing (R338). -/

namespace Sys2Proof.Machine

/-- An event as a counter counts it: the code alone names no event, only the pair of code and counter does
(30_encoding.md R87, R88). -/
inductive SelectedEvent where
  | pentium (row : PentiumRow)
  | p6 (row : P6Row) (qualifier : Qualifier)
  deriving DecidableEq, Repr

/-- The code sel[k] of the Pentium family (10_state.md R38). -/
def Selections.sel : Selections → CounterId → Option PentiumCode
  | .pentium c0 _, .zero => some c0
  | .pentium _ c1, .one => some c1
  | .p6 _ _, _ => none

/-- The fields evt[k] and umsk[k] of the P6 family: PerfEvtSel0 belongs to counter 0 and PerfEvtSel1 to
counter 1 (10_state.md R39). -/
def Selections.perfEvtSel : Selections → CounterId → Option PerfEvtSel
  | .p6 p0 _, .zero => some p0
  | .p6 _ p1, .one => some p1
  | .pentium _ _, _ => none

/-- The event that counter `k` counts, if its selection is one (40_events_pentium.md R101, 41_events_p6.md
R201). -/
def Selections.event (x : Selections) (k : CounterId) : Option SelectedEvent :=
  match x.sel k, x.perfEvtSel k with
  | some c, _ => (pentiumSelected c k).map .pentium
  | none, some p => (p6Selected p k).map (fun r => .p6 r (r.qualifier p.umsk))
  | none, none => none

/-- `Legal(k)` of 60_exceptions.md R335: counter `k` holds a selection that names an event. -/
def State.legal (s : State) (k : CounterId) : Bool :=
  (s.selections.event k).isSome

/-- A MESI event under a unit mask that names no cache state: "UMSK = 0H, for the applicable events, will result
in nothing being counted" (41_events_p6.md R204, 60_exceptions.md R338 (a), 70_reset_and_hazards.md R370). -/
def SelectedEvent.countsNothing : SelectedEvent → Bool
  | .pentium _ => false
  | .p6 _ q => q == .states []

/-- Counter `k` holds a selection under which nothing is counted. -/
def State.countsNothing (s : State) (k : CounterId) : Bool :=
  (s.selections.event k).any SelectedEvent.countsNothing

end Sys2Proof.Machine
end

