-- ==== Sys2Proof/Machine/Monitor.lean ====
section
/-! DEFINITION. The monitor, the agent that makes the counters count (00_scope.md R11 (b), 60_exceptions.md
R335 to R338). Its draws are free values of Config. -/

namespace Sys2Proof.Machine

/-- `MonitorStep(k, n)` of 60_exceptions.md R335, with `d` for the value drawn when the selection is not legal.
The sum wraps at 2^40 with no other effect (R336, decision D7, log 7); a reserved selection gives any value
(R337, log 15). The other counter is not touched (decision D30, log 35). -/
def monitorStep (k : CounterId) (n : Nat) (d : Counter) (s : State) : State :=
  if s.legal k then s.setCtr k (BitVec.ofNat 40 ((s.ctr k).toNat + n))
  else s.setCtr k d

/-- The increment that the monitor's i-th draw gives counter `k`: forced to 0 where nothing is counted
(60_exceptions.md R338 (a)), otherwise any natural number (R335, R338 (b), log 14). -/
def State.increment (s : State) (k : CounterId) (i : Nat) : Nat :=
  if s.countsNothing k then 0 else Config.drawnIncrement i

/-- One step of the monitor on counter `k`, with a fresh draw. -/
def monitorDraw (k : CounterId) (s : State) : State :=
  { monitorStep k (s.increment k s.draws) (Config.drawnCount s.draws) s with draws := s.draws + 1 }

/-- The monitor acts on both counters, each with a draw of its own (decision D30, log 35). Any number of its
steps on a counter add up to one, since a sum of draws is a draw (log 16). -/
def monitorRuns (s : State) : State :=
  monitorDraw .one (monitorDraw .zero s)

/-- Which of the two draws of `monitorRuns` is counter `k`'s (log 36). -/
def drawOffset : CounterId → Nat
  | .zero => 0
  | .one => 1

/-- The value that the monitor's i-th draw leaves in counter `k`: the sum modulo 2^40 (60_exceptions.md R335,
R336) or, under a reserved selection, any value (R337). -/
def drawnValue (k : CounterId) (i : Nat) (s : State) : Counter :=
  if s.legal k then BitVec.ofNat 40 ((s.ctr k).toNat + s.increment k i)
  else Config.drawnCount i

/-- The monitor acts again after an instruction that completes: the events of the instruction that its own
sample does not hold (42_rdpmc.md R309, decision D22, log 25). A run that has ended is left alone. -/
def monitorAfter : Host.Outcome State Fault Refusal → Host.Outcome State Fault Refusal
  | .next s => .next (monitorRuns s)
  | .fault f => .fault f
  | .refused r => .refused r

end Sys2Proof.Machine
end

