-- ==== Sys2Proof/Machine/Rdpmc.lean ====
section
/-! DEFINITION. The instruction family of one member, RDPMC (42_rdpmc.md R300). -/

namespace Sys2Proof.Machine

/-- What RDPMC does when both checks pass: one sample of ctr[k], placed in EDX:EAX, and on to the next
instruction (42_rdpmc.md R300, R301, R308). -/
def sampleCounter (k : CounterId) (s : State) : State :=
  (s.setPair (placeCounter (s.ctr k))).advance Config.rdpmcLength

/-- RDPMC (42_rdpmc.md R300): the privilege check first (R302), then the index check (R303), one chain of IFs
(90_conflicts.md C2). No flag is written (10_state.md R31, log 4). The state is the one at the sample; what the
monitor adds before and after it is `step`'s (R309, log 37). -/
def execRdpmc (s : State) : Host.Outcome State Fault Refusal :=
  if rdpmcPermitted s then
    match counterIndex s.ecx with
    | some k => .next (sampleCounter k s)
    | none => raiseGeneralProtection s
  else raiseGeneralProtection s

end Sys2Proof.Machine
end

