-- ==== Sys2Proof/Machine/Fetch.lean ====
section
/-! DEFINITION. Fetching the instruction at eip (20_memory.md R61, 70_reset_and_hazards.md R377). -/

namespace Sys2Proof.Machine

/-- The instruction at eip, or why there is none: the two bytes at eip and eip + 1 (20_memory.md R61), at any
alignment (R64), refused outside the program bytes, past the last address (10_state.md R30) and on bytes that
are no instruction (30_encoding.md R82). -/
def fetchDecode (s : State) : Except Refusal Instr :=
  match Memory.window s.mem s.eip Config.rdpmcLength with
  | [] => .error (if s.eip = s.programEnd then .programEnd s.eip else .outsideProgram s.eip)
  | bytes =>
    if Config.addressLimit < s.eip + Config.rdpmcLength then .error (.addressWrap s.eip)
    else
      match decode bytes with
      | .ok (i, _) => .ok i
      | .error e => .error (.undecoded s.eip e)

/-- The state with the instruction of a table word at the place that the next step fetches from. -/
def placeTableWord (s : State) (nbits w : Nat) : State :=
  { s with mem := Memory.writeBytes s.mem s.eip (tableBytes nbits w) }

end Sys2Proof.Machine
end

