-- ==== Sys2Proof/Machine/Step.lean ====
section
/-! DEFINITION. One step of the machine: the monitor acts, the instruction at eip runs, the monitor acts again
(60_exceptions.md R335: it may fire between any two steps of the processor and in the course of one). -/

namespace Sys2Proof.Machine

/-- One instruction of the program (70_reset_and_hazards.md R377), with the monitor before the sample and after
it (42_rdpmc.md R309, log 16). No interrupt is taken and the configurator takes no step (60_exceptions.md R328,
R345, logs 23 and 28). -/
def step (s : State) : Host.Outcome State Fault Refusal :=
  let now := monitorRuns s
  match fetchDecode now with
  | .error r => .refused r
  | .ok i => monitorAfter (exec i now)

/-- The state with the instruction of the table word `w` placed at eip, where `step` fetches (log 31). -/
def State.withFetchWord (s : State) (nbits w : Nat) : State :=
  placeTableWord s nbits w

end Sys2Proof.Machine
end

