-- ==== Sys2Proof/Machine/Run.lean ====
section
/-! DEFINITION. The launch state (10_state.md R51, 70_reset_and_hazards.md R361) and the end of a run
(R377). -/

namespace Sys2Proof.Machine

/-- Everything that a launch names (70_reset_and_hazards.md R361). FAMILY is the constructor of `selections`. -/
structure Launch where
  selections : Selections
  ctr0 : Counter
  ctr1 : Counter
  cr4Pce : Bool
  cr4Tsd : Bool
  cpl : Fin 4
  mode : Mode
  codeSize : CodeSize
  eax : Reg
  ecx : Reg
  edx : Reg
  eip : Nat
  progBase : Nat
  program : List Byte
  deriving DecidableEq, Repr

/-- The launch is one that the spec allows: the CPL is the mode's (10_state.md R36, log 9), the program's bytes
do not wrap (R30, log 3), and eip stands in the program or just past its last byte (R377). -/
def Launch.wellFormed (l : Launch) : Bool :=
  (modeCpl l.mode == none || modeCpl l.mode == some l.cpl)
    && l.progBase + l.program.length ≤ Config.addressLimit
    && l.progBase ≤ l.eip && l.eip ≤ l.progBase + l.program.length

/-- The state from which a run starts (70_reset_and_hazards.md R361): the program's bytes at rising addresses
from its base (20_memory.md R61), no draw made yet. -/
def Launch.start (l : Launch) : State where
  eax := l.eax
  ecx := l.ecx
  edx := l.edx
  eip := l.eip
  ctr0 := l.ctr0
  ctr1 := l.ctr1
  selections := l.selections
  cr4Pce := l.cr4Pce
  cr4Tsd := l.cr4Tsd
  cpl := l.cpl
  mode := l.mode
  codeSize := l.codeSize
  mem := Memory.writeBytes [] l.progBase l.program
  progBase := l.progBase
  draws := 0

/-- The three ways in which a run ends (70_reset_and_hazards.md R377). -/
inductive Ending where
  /-- eip is just past the last program byte. -/
  | final (s : State)
  /-- An RDPMC raised #GP(0): the state is kept in the fault, and no later step clears it. -/
  | faulted (f : Fault)
  /-- The bytes at eip have no meaning in this model. -/
  | refused (s : State) (r : Refusal)
  deriving DecidableEq, Repr

/-- eip equals the address just past the last program byte (70_reset_and_hazards.md R377 (a)). -/
def State.isFinal (s : State) : Bool :=
  s.eip == s.programEnd && (Memory.read s.mem s.eip).isNone

/-- The end of the run that starts at `s`, if it ends within `n` instructions (70_reset_and_hazards.md R377).
The monitor may act also where no instruction runs, so that an empty program is "Final at once, state unchanged
except for the monitor's draws" (95_test_vectors.md program 5): the model lets it act on the state that a run shows
as Final or Refused (DEDUCED, 60_exceptions.md R335, log 40). -/
def run : Nat → State → Option Ending
  | 0, s => if s.isFinal then some (.final (monitorRuns s)) else none
  | n + 1, s =>
    if s.isFinal then some (.final (monitorRuns s))
    else
      match step s with
      | .next t => run n t
      | .fault f => some (.faulted f)
      | .refused r => some (.refused (monitorRuns s) r)

end Sys2Proof.Machine
end

