-- ==== Sys2Proof/Safety.lean ====
section
/-! DEFINITION. What counts as a safe state, in the terms that statements use. -/

namespace Sys2Proof.Machine

/-- An RDPMC completes in this state: it is permitted and ECX names a counter (70_reset_and_hazards.md R362 (b),
(c)). -/
def State.readable (s : State) : Bool :=
  rdpmcPermitted s && (counterIndex s.ecx).isSome

/-- The invariant of the machine: the memory keeps its canonical form; the CPL is the one that the mode runs at
(10_state.md R36, log 9); eip stands between the program's base and its end (70_reset_and_hazards.md R377) and
has not wrapped (10_state.md R30, log 3). -/
abbrev State.Inv (s : State) : Prop :=
  Memory.wf s.mem ∧ modeFixesCpl s = true ∧ s.progBase ≤ s.eip ∧ s.eip ≤ s.programEnd
    ∧ s.eip ≤ Config.addressLimit

/-- The instruction or step raised #GP(0): the exception with error code 0, whatever it records beside
(60_exceptions.md R320). -/
def RaisesGeneralProtection (o : Host.Outcome State Fault Refusal) : Prop :=
  ∃ at_ kept, o = .fault (.generalProtection 0 at_ kept)

/-- The instruction or step completed. -/
def Completes (o : Host.Outcome State Fault Refusal) : Prop :=
  ∃ t, o = .next t

/-- The two states agree on everything but the counters and the model's own count of draws: what the monitor
may change (60_exceptions.md R335). -/
abbrev SameButCounters (s t : State) : Prop :=
  t = { s with ctr0 := t.ctr0, ctr1 := t.ctr1, draws := t.draws }

/-- The two states agree on what no instruction and no monitor changes: ECX, the event selections, CR4, CPL, the
mode, the code size, and the program (60_exceptions.md R345, R333; 20_memory.md R71). -/
abbrev SameConfiguration (s t : State) : Prop :=
  t = { s with eax := t.eax, edx := t.edx, eip := t.eip, ctr0 := t.ctr0, ctr1 := t.ctr1, draws := t.draws }

end Sys2Proof.Machine
end

