-- ==== Sys2Proof/Certificates/Slice0/Obligations.lean ====
section
/-! DEFINITION. The statements for the provers. Each docstring names the rules of spec/ it formalises; where a
clause rests on a decision of the spec (92_eei_decisions.md) or on a choice of the model, it names the log entry. -/

open Sys2Proof Sys2Proof.Machine

/-! ### Encoding -/

/-- 30_encoding.md R80, R82 (byte order: decision D16, log 19): the decoder gives an instruction exactly on the
bytes that encode it, followed by anything; so decoding undoes encoding, and no other bytes decode. -/
def Obligations.DecodeInvertsEncode : Prop :=
  (∀ (bs : List Byte) (i : Instr) (rest : List Byte), i.wellFormed = true →
    (decode bs = .ok (i, rest) ↔ bs = encode i ++ rest)) ∧
  encode .rdpmc = [0x0F, 0x33]

/-- 30_encoding.md R80, R96: the bytes 0F 33 are RDPMC, also as the word that the opcode table writes (log 19). -/
def Obligations.RdpmcBytesDecode : Prop :=
  decode [0x0F, 0x33] = .ok (.rdpmc, []) ∧ decode [0x0F, 0x33, 0x90] = .ok (.rdpmc, [0x90]) ∧
    decodeTableWord 16 0x0F33 = some .rdpmc ∧ decodeTableWord 16 0x330F = none

/-- 30_encoding.md R82, R85, R95, 95_test_vectors.md program 5: what the decoder refuses, by name. The values of
the modifier bytes and of RDTSC's opcode are PRESUMED (log 21). -/
def Obligations.OtherBytesRefusedByName : Prop :=
  (∀ b : Byte, decode [b] = .error .truncated) ∧ decode [] = .error .truncated ∧
    (∀ rest, decode (0x0F :: 0x31 :: rest) = .error .rdtsc) ∧
    (∀ (b c : Byte) (rest : List Byte), b ∈ modifierBytes → decode (b :: c :: rest) = .error (.prefixedForm b)) ∧
    (∀ (b c : Byte) (rest : List Byte), b ∉ modifierBytes → ¬ (b = 0x0F ∧ (c = 0x33 ∨ c = 0x31)) →
      decode (b :: c :: rest) = .error (.notInSpec b c))

/-! ### RDPMC: results, checks, frame -/

/-- 42_rdpmc.md R300, R301: when both checks pass, RDPMC completes, and this is the whole next state: EAX and EDX
take the counter's bits, eip moves on by 2, and nothing else changes. The zeros in EDX bits 31 to 8 are decision
D2 (log 2); eip + 2 is decision D3 (log 3). -/
def Obligations.RdpmcCompletesWithCounter : Prop :=
  ∀ s : State, (s.cr4Pce = true ∨ s.cpl = 0) →
    (s.ecx = 0 → exec .rdpmc s = .next { s with
      eax := s.ctr0.extractLsb' 0 32
      edx := (s.ctr0.extractLsb' 32 8).zeroExtend 32
      eip := s.eip + 2 }) ∧
    (s.ecx = 1 → exec .rdpmc s = .next { s with
      eax := s.ctr1.extractLsb' 0 32
      edx := (s.ctr1.extractLsb' 32 8).zeroExtend 32
      eip := s.eip + 2 })

/-- 42_rdpmc.md R301 (zeros: decision D2, log 2): the integer law of the result, for whichever counter ECX names. -/
def Obligations.RdpmcResultIntegerLaw : Prop :=
  ∀ s t : State, exec .rdpmc s = .next t →
    ∃ k, counterIndex s.ecx = some k ∧ t.edx.toNat * 2 ^ 32 + t.eax.toNat = (s.ctr k).toNat ∧ t.edx.toNat < 2 ^ 8

/-- 42_rdpmc.md R302: the privilege check, all four levels and both values of CR4.PCE, given a valid index. -/
def Obligations.RdpmcPrivilegeCheckExact : Prop :=
  ∀ s : State, (s.ecx = 0 ∨ s.ecx = 1) →
    (s.cr4Pce = false ∧ (s.cpl = 1 ∨ s.cpl = 2 ∨ s.cpl = 3) → RaisesGeneralProtection (exec .rdpmc s)) ∧
    (s.cpl = 0 → Completes (exec .rdpmc s)) ∧
    (s.cr4Pce = true → Completes (exec .rdpmc s))

/-- 42_rdpmc.md R303: the index check, at every level and in both families. -/
def Obligations.RdpmcIndexCheckExact : Prop :=
  ∀ s : State,
    (s.ecx ≠ 0 → s.ecx ≠ 1 → RaisesGeneralProtection (exec .rdpmc s)) ∧
    ((s.cr4Pce = true ∨ s.cpl = 0) → s.ecx = 0 →
      ∃ t, exec .rdpmc s = .next t ∧ t.eax = s.ctr0.extractLsb' 0 32 ∧
        t.edx.extractLsb' 0 8 = s.ctr0.extractLsb' 32 8) ∧
    ((s.cr4Pce = true ∨ s.cpl = 0) → s.ecx = 1 →
      ∃ t, exec .rdpmc s = .next t ∧ t.eax = s.ctr1.extractLsb' 0 32 ∧
        t.edx.extractLsb' 0 8 = s.ctr1.extractLsb' 32 8)

/-- 42_rdpmc.md R300, R305, 20_memory.md R60: the frame of RDPMC. It writes EDX and EAX (and eip, decision D3,
log 3) and nothing else; no byte of memory changes; the counters keep their values (decision D8, log 8), and the
monitor's part is `step`'s (log 37). -/
def Obligations.RdpmcFrame : Prop :=
  ∀ s t : State, exec .rdpmc s = .next t →
    t.ecx = s.ecx ∧ t.ctr0 = s.ctr0 ∧ t.ctr1 = s.ctr1 ∧ t.selections = s.selections ∧
    t.cr4Pce = s.cr4Pce ∧ t.cr4Tsd = s.cr4Tsd ∧ t.cpl = s.cpl ∧ t.mode = s.mode ∧ t.codeSize = s.codeSize ∧
    t.progBase = s.progBase ∧ t.draws = s.draws ∧
    (∀ a : Nat, Memory.read t.mem a = Memory.read s.mem a) ∧ t.mem = s.mem

/-- 60_exceptions.md R320, R322, R323 (decisions D5 and D6, logs 5 and 6): the fault records error code 0 and the
address of the instruction, keeps the whole state, and is raised exactly when one of the two checks fails; RDPMC
does nothing else than complete or raise it. -/
def Obligations.RdpmcFaultKeepsState : Prop :=
  ∀ s : State,
    (¬ (s.cr4Pce = true ∨ s.cpl = 0) ∨ (s.ecx ≠ 0 ∧ s.ecx ≠ 1) ↔
      exec .rdpmc s = .fault (.generalProtection 0 s.eip s)) ∧
    (Completes (exec .rdpmc s) ∨ exec .rdpmc s = .fault (.generalProtection 0 s.eip s))

/-- 10_state.md R28: in 16-bit code and in VM mode, as everywhere, RDPMC compares all 32 bits of ECX, and writes
all 32 bits of EDX and of EAX: what they held before is lost whole. -/
def Obligations.RegistersFullWidthInEveryMode : Prop :=
  ∀ (s : State) (m : Mode) (c : CodeSize),
    (s.ecx ≠ 0 ∧ s.ecx ≠ 1 → RaisesGeneralProtection (exec .rdpmc { s with mode := m, codeSize := c })) ∧
    (∀ t, exec .rdpmc { s with mode := m, codeSize := c } = .next t →
      ∀ x y : Reg, exec .rdpmc { s with mode := m, codeSize := c, eax := x, edx := y } = .next t)

/-- 30_encoding.md R84: neither the decoding nor the widths of the operands depend on the code size or the mode:
with another mode and code size the same bytes are the same instruction, and it does the same. -/
def Obligations.ModeAndCodeSizeDoNotMatter : Prop :=
  ∀ (s : State) (m : Mode) (c : CodeSize),
    (∀ i, fetchDecode s = .ok i → fetchDecode { s with mode := m, codeSize := c } = .ok i) ∧
    (∀ t, exec .rdpmc s = .next t →
      exec .rdpmc { s with mode := m, codeSize := c } = .next { t with mode := m, codeSize := c }) ∧
    (RaisesGeneralProtection (exec .rdpmc s) →
      RaisesGeneralProtection (exec .rdpmc { s with mode := m, codeSize := c }))

/-- 42_rdpmc.md R306, R307, 10_state.md R36 (decision D9, log 9): in VM mode RDPMC needs CR4.PCE = 1; in
real-address mode the privilege condition never holds, and only the index check can fault. -/
def Obligations.PrivilegeInVmAndRealMode : Prop :=
  ∀ s : State, modeFixesCpl s = true →
    (s.mode = .vm → (s.ecx = 0 ∨ s.ecx = 1) → (Completes (exec .rdpmc s) ↔ s.cr4Pce = true)) ∧
    (s.mode = .realAddress → (Completes (exec .rdpmc s) ↔ (s.ecx = 0 ∨ s.ecx = 1)))

/-- 60_exceptions.md R332 (RDTSC's rows: decision D19, log 22): what each level may do, as far as the source
says; and what RDPMC does is what the table says. -/
def Obligations.PermissionTable : Prop :=
  ∀ s : State,
    (s.cr4Pce = true → permission s .rdpmc = .yes) ∧
    (s.cr4Pce = false → s.cpl = 0 → permission s .rdpmc = .yes) ∧
    (s.cr4Pce = false → s.cpl ≠ 0 → permission s .rdpmc = .generalProtection) ∧
    (s.cpl = 3 → s.cr4Tsd = false → permission s .rdtsc = .yes) ∧
    (s.cpl = 3 → s.cr4Tsd = true → permission s .rdtsc = .no) ∧
    (s.cpl ≠ 3 → permission s .rdtsc = .notStated) ∧
    (s.cpl = 3 → permission s .accessCesr = .no) ∧
    (s.cpl ≠ 3 → permission s .accessCesr = .notStated) ∧
    permission s .writePce = .notStated ∧
    ((s.ecx = 0 ∨ s.ecx = 1) → (permission s .rdpmc = .yes ↔ Completes (exec .rdpmc s))) ∧
    (permission s .rdpmc = .generalProtection → RaisesGeneralProtection (exec .rdpmc s))

/-! ### The step -/

/-- 70_reset_and_hazards.md R377, 60_exceptions.md R335, 42_rdpmc.md R309 (log 16): when the two bytes at eip
decode to a well-formed instruction and do not wrap, a step is the monitor, then exec of that instruction, and,
if it completes, the monitor again. -/
def Obligations.StepRunsDecodedInstruction : Prop :=
  ∀ (s : State) (i : Instr), i.wellFormed = true →
    decode (Memory.window s.mem s.eip 2) = .ok (i, []) → s.eip + 2 ≤ 2 ^ 32 →
    step s = match exec i (monitorRuns s) with
      | .next t => .next (monitorRuns t)
      | .fault f => .fault f
      | .refused r => .refused r

/-- 42_rdpmc.md R309, R300, 60_exceptions.md R335 to R337, 95_test_vectors.md program 1 (decisions D2, D3, D7;
logs 2, 3, 7): where the bytes 0F 33 stand at eip and both checks pass, the step completes, whatever is selected,
in the state that the monitor, one sample of the counter that ECX names, and the monitor again give. EDX:EAX is that
counter at the sample. Under a legal selection the sample is the counter before plus the monitor's first draw, and
the counter after has the second draw as well; under a reserved one the sample is the drawn value. -/
def Obligations.StepSamplesCounterBetweenDraws : Prop :=
  ∀ (s : State) (k : CounterId), Memory.window s.mem s.eip 2 = [0x0F, 0x33] → s.eip + 2 ≤ 2 ^ 32 →
    (s.cr4Pce = true ∨ s.cpl = 0) → counterIndex s.ecx = some k →
    ∃ t, step s = .next t ∧ t = monitorRuns (sampleCounter k (monitorRuns s)) ∧ t.eip = s.eip + 2 ∧
      t.pair = placeCounter ((monitorRuns s).ctr k) ∧ t.edx.toNat ≤ 0xFF ∧
      (s.legal k = true →
        t.pair.toNat = ((s.ctr k).toNat + s.increment k (s.draws + drawOffset k)) % 2 ^ 40 ∧
        (t.ctr k).toNat = ((s.ctr k).toNat + s.increment k (s.draws + drawOffset k)
          + s.increment k (s.draws + 2 + drawOffset k)) % 2 ^ 40) ∧
      (s.legal k = false → t.pair = placeCounter (Config.drawnCount (s.draws + drawOffset k)))

/-- 20_memory.md R61, 70_reset_and_hazards.md R377 (decision D26, log 29): a step where no program byte stands is
refused, as the end of the program or as a fetch outside it. -/
def Obligations.StepRefusesWithoutBytes : Prop :=
  ∀ s : State, Memory.read s.mem s.eip = none →
    (s.eip = s.programEnd → step s = .refused (.programEnd s.eip)) ∧
    (s.eip ≠ s.programEnd → step s = .refused (.outsideProgram s.eip))

/-- 30_encoding.md R82, R85, R95, 70_reset_and_hazards.md R377 (c): a step on bytes that are not 0F 33, or on one
last byte, is refused with the decoder's reason. -/
def Obligations.StepRefusesOtherBytes : Prop :=
  ∀ (s : State) (b : Byte), Memory.read s.mem s.eip = some b → s.eip + 2 ≤ 2 ^ 32 →
    (Memory.read s.mem (s.eip + 1) = none → step s = .refused (.undecoded s.eip .truncated)) ∧
    (∀ c, Memory.read s.mem (s.eip + 1) = some c → ¬ (b = 0x0F ∧ c = 0x33) →
      ∃ e, decode [b, c] = .error e ∧ step s = .refused (.undecoded s.eip e))

/-- 10_state.md R30 (decision D3 and the address limit of log 3): an instruction whose bytes would pass the last
address is refused; none is completed there. -/
def Obligations.StepRefusesWrappingBytes : Prop :=
  ∀ (s : State) (b : Byte), Memory.read s.mem s.eip = some b → 2 ^ 32 < s.eip + 2 →
    step s = .refused (.addressWrap s.eip)

/-- 60_exceptions.md R345, R333, 20_memory.md R71, 10_state.md R30 (decisions D3 and D20, logs 3 and 23): the
frame of every step that completes. Only EAX, EDX, eip, the counters and the model's count of draws change; eip
moves on by the two bytes of the one instruction there is; no byte of memory changes. -/
def Obligations.StepChangesOnlyResultAndCounters : Prop :=
  ∀ s t : State, step s = .next t →
    SameConfiguration s t ∧ t.eip = s.eip + 2 ∧ (∀ a, Memory.read t.mem a = Memory.read s.mem a)

/-- 60_exceptions.md R322, R323, R335, R336, 70_reset_and_hazards.md R377 (b) (decisions D5, D6, D7; logs 5, 6,
7): a step that faults raised #GP(0) at eip, and the state kept is the one before with what the monitor did on its
own account and nothing else: each counter with a legal selection gained the monitor's draw, modulo 2^40. -/
def Obligations.StepFaultKeepsAllButCounters : Prop :=
  ∀ (s : State) (code at_ : Nat) (kept : State), step s = .fault (.generalProtection code at_ kept) →
    code = 0 ∧ at_ = s.eip ∧ kept = monitorRuns s ∧ SameButCounters s kept ∧
    (∀ k, s.legal k = true →
      (kept.ctr k).toNat = ((s.ctr k).toNat + s.increment k (s.draws + drawOffset k)) % 2 ^ 40)

/-- 42_rdpmc.md R311: at CPL 3, CESR is not accessible, CR4.PCE opens the counters, and no step changes a
selection, whether it completes or faults. -/
def Obligations.UserStepsKeepSelections : Prop :=
  ∀ s : State, s.cpl = 3 →
    permission s .accessCesr = .no ∧
    (s.cr4Pce = true → permission s .rdpmc = .yes) ∧
    (∀ t, step s = .next t → t.selections = s.selections) ∧
    (∀ code at_ kept, step s = .fault (.generalProtection code at_ kept) → kept.selections = s.selections)

/-- 42_rdpmc.md R302, 60_exceptions.md R332: with CR4.PCE = 0, code at CPL 1, 2 or 3 never learns a counter: no
step of it completes, whatever the counters hold. That a step that faults leaves EAX and EDX as they were is R322
(decision D5, log 5). -/
def Obligations.UnprivilegedNeverReadsCounter : Prop :=
  ∀ (s : State) (v w : Counter), s.cr4Pce = false → s.cpl ≠ 0 →
    ¬ Completes (step { s with ctr0 := v, ctr1 := w }) ∧
    (∀ code at_ kept, step { s with ctr0 := v, ctr1 := w } = .fault (.generalProtection code at_ kept) →
      kept.eax = s.eax ∧ kept.edx = s.edx)

/-- 42_rdpmc.md R303, R305, 10_state.md R22, 60_exceptions.md R337 (decision D30, log 35): a step that reads one
counter neither depends on the other nor says anything of it: with another value there, the step completes with the
same state but for that counter. -/
def Obligations.OtherCounterDoesNotInterfere : Prop :=
  ∀ (s t : State) (k j : CounterId) (v : Counter), j ≠ k → counterIndex s.ecx = some k →
    step s = .next t → ∃ w, step (s.setCtr j v) = .next (t.setCtr j w)

/-- The invariant of the machine (memory form; CPL by mode, log 9; eip within the program and not wrapped, log 3):
every step that completes keeps it. -/
def Obligations.StepKeepsMachineInv : Prop :=
  ∀ s t : State, s.Inv → step s = .next t → t.Inv

/-- The invariant holds at reset, in both families (the values of reset are the model's and the spec's own choices,
logs 17, 18). -/
def Obligations.ResetMeetsMachineInv : Prop :=
  State.reset.Inv ∧ ∀ f : Family, (State.resetOf f).Inv

/-- 70_reset_and_hazards.md R361, 20_memory.md R61: every launch that is well-formed starts in a state that meets
the invariant, holding the program's bytes from its base address. What a well-formed launch is, is the model's
choice (log 38): the CPL is the mode's (10_state.md R36, decision D9, log 9), the bytes do not pass the last address
(R30, log 3), and eip stands in the program or just past it. -/
def Obligations.LaunchMeetsMachineInv : Prop :=
  ∀ l : Launch, l.wellFormed = true →
    l.start.Inv ∧ l.start.programEnd = l.progBase + l.program.length ∧
    (∀ n : Nat, Memory.read l.start.mem (l.progBase + n) = l.program[n]?)

/-! ### The monitor -/

/-- 60_exceptions.md R335, R336 (wrap: decision D7, log 7; independence: decision D30, log 35): a step of the
monitor on a counter with a legal selection adds n modulo 2^40 to it and touches nothing else. -/
def Obligations.MonitorStepAddsModulo : Prop :=
  ∀ (k : CounterId) (n : Nat) (d : Counter) (s : State), s.legal k = true →
    ((monitorStep k n d s).ctr k).toNat = ((s.ctr k).toNat + n) % 2 ^ 40 ∧
    monitorStep k n d s = s.setCtr k ((monitorStep k n d s).ctr k) ∧
    (∀ j, j ≠ k → (monitorStep k n d s).ctr j = s.ctr j)

/-- 60_exceptions.md R336 (decision D7, log 7), R338 (b): under the premise that no wrap occurs the counter does
not decrease. -/
def Obligations.NoWrapNoDecrease : Prop :=
  ∀ (k : CounterId) (n : Nat) (d : Counter) (s : State), s.legal k = true → (s.ctr k).toNat + n < 2 ^ 40 →
    (s.ctr k).toNat ≤ ((monitorStep k n d s).ctr k).toNat

/-- 60_exceptions.md R335, R336, R337, R338 (decision D7, log 7; logs 14, 15, 16, 36): all that the monitor does
between two instructions, counter by counter. A legal counter gains its draw, modulo 2^40, and keeps its value where
nothing is counted; a reserved one takes the drawn value; nothing but the counters and the model's count of draws
changes. -/
def Obligations.MonitorRunsOnlyCounts : Prop :=
  ∀ s : State, SameButCounters s (monitorRuns s) ∧
    ∀ k, (s.legal k = true →
        ((monitorRuns s).ctr k).toNat = ((s.ctr k).toNat + s.increment k (s.draws + drawOffset k)) % 2 ^ 40) ∧
      (s.countsNothing k = true → (monitorRuns s).ctr k = s.ctr k) ∧
      (s.legal k = false → (monitorRuns s).ctr k = Config.drawnCount (s.draws + drawOffset k))

/-- 60_exceptions.md R337 (Pentium pairs: decision D11, log 11; independence: decision D30, log 35): under a
selection that is not legal the counter takes the drawn value, whatever it held; the other counter is untouched;
RDPMC does not fault on account of the selection. -/
def Obligations.ReservedSelectionUndefinedCount : Prop :=
  ∀ (k : CounterId) (n : Nat) (d : Counter) (s : State), s.legal k = false →
    (monitorStep k n d s).ctr k = d ∧ (∀ j, j ≠ k → (monitorStep k n d s).ctr j = s.ctr j) ∧
    (s.readable = true → Completes (exec .rdpmc (monitorStep k n d s)))

/-- 70_reset_and_hazards.md R370: for L2_LD, L2_ST and L2_RQSTS, the unit mask 0FH collects data for all four
states, and the unit mask 0 yields a counter that never moves, in no step. -/
def Obligations.L2MaskZeroNeverMoves : Prop :=
  ∀ (s : State) (k : CounterId) (e : Byte), (e = 0x29 ∨ e = 0x2A ∨ e = 0x2E) →
    (s.selections.perfEvtSel k = some ⟨e, 0x0F⟩ →
      ∃ r, s.selections.event k = some (.p6 r (.states [.m, .e, .s, .i])) ∧ r.evt = e) ∧
    (s.selections.perfEvtSel k = some ⟨e, 0x00⟩ →
      (monitorRuns s).ctr k = s.ctr k ∧
      (∀ t, step s = .next t → t.ctr k = s.ctr k) ∧
      (∀ code at_ kept, step s = .fault (.generalProtection code at_ kept) → kept.ctr k = s.ctr k))

/-- 42_rdpmc.md R309, 60_exceptions.md R335, R336, R338 (decisions D2, D7, D22; logs 2, 7, 25): two reads of one
counter under a legal selection satisfy second = (first + n) mod 2^40, where n is the sum of the monitor's two draws
for this counter between the two samples, and second = first where nothing is counted. First and second are the pairs
EDX:EAX after the two steps. PREMISE of R345 (decision D20, log 23): no step of the configurator lies between them;
the model has none, so the claim holds of a chip only while no privileged software reprograms or clears the counters
or toggles CR4.PCE. No interrupt is taken between them either (decision D25, log 28). -/
def Obligations.TwoReadsDifferByDraw : Prop :=
  ∀ (s t u : State) (k : CounterId), counterIndex s.ecx = some k → s.legal k = true →
    step s = .next t → step t = .next u →
    u.pair = placeCounter ((monitorRuns t).ctr k) ∧
    u.pair.toNat = (t.pair.toNat + (s.increment k (s.draws + 2 + drawOffset k)
      + s.increment k (s.draws + 4 + drawOffset k))) % 2 ^ 40 ∧
    (s.countsNothing k = true → u.pair = t.pair)

/-- 70_reset_and_hazards.md R372, 42_rdpmc.md R305 (wrap: decision D7, log 7; a read leaves the counter: decision
D8, log 8): the difference of two reads in sequence, taken modulo 2^40 on the 40-bit values, is the number of events
that the monitor counted between them if fewer than 2^40 occurred. First and second are the low 40 bits of EDX:EAX.
PREMISE of 60_exceptions.md R345 (decision D20, log 23): no step of the configurator lies between the two reads. -/
def Obligations.DifferenceOfReadsIsCount : Prop :=
  ∀ (s : State) (k : CounterId) (n : Nat) (d : Counter) (t u : State),
    counterIndex s.ecx = some k → s.legal k = true → n < 2 ^ 40 →
    exec .rdpmc s = .next t → exec .rdpmc (monitorStep k n d t) = .next u →
    ((u.pair.extractLsb' 0 40 : Counter) - (t.pair.extractLsb' 0 40 : Counter)).toNat = n

/-! ### Event selection -/

/-- 40_events_pentium.md R101: on counter k, a code selects exactly a row of Table 6-1 with that Encoding and "Yes"
in the counter's column (that is not "Reserved": R104); there is at most one row with "Yes" for a pair; and the
event depends on the counter, as code 101011 shows. -/
def Obligations.PentiumSelectionByTable : Prop :=
  (∀ (s : State) (c : PentiumCode) (k : CounterId) (x : SelectedEvent), s.selections.sel k = some c →
    (s.selections.event k = some x ↔
      ∃ r, x = .pentium r ∧ r ∈ pentiumTable ∧ r.code = c ∧ r.onCounter k = true ∧ r.reserved = false)) ∧
  (∀ (k : CounterId) (r r' : PentiumRow), r ∈ pentiumTable → r' ∈ pentiumTable → r.code = r'.code →
    r.onCounter k = true → r'.onCounter k = true → r = r') ∧
  ((pentiumSelected 0b101011 .zero).map (fun r => r.event) = some "MMX(TM) instructions executed in u-pipe") ∧
  ((pentiumSelected 0b101011 .one).map (fun r => r.event) = some "MMX instructions executed in v-pipe")

/-- 40_events_pentium.md R104, 30_encoding.md R90: the pairs of code and counter with no event, and no others. -/
def Obligations.PentiumPairsWithoutEvent : Prop :=
  ∀ (s : State) (c : PentiumCode) (k : CounterId), s.selections.sel k = some c →
    (s.legal k = false ↔
      c ∈ [16, 17, 32, 33, 28, 42, 44, 60, 61, 62, 63] ∨ (k = .zero ∧ c ∈ [46, 51]) ∨ (k = .one ∧ c ∈ [48, 49]))

/-- 70_reset_and_hazards.md R365: an event with "No" under a counter is counted there under no code; a twin code
on the wrong counter counts the other twin. -/
def Obligations.PentiumEventStaysOnItsCounter : Prop :=
  (∀ (r : PentiumRow) (k : CounterId), r ∈ pentiumTable → r.onCounter k = false →
    ∀ (s : State), s.selections.event k ≠ some (.pentium r)) ∧
  ((pentiumSelected 0b110010 .one).map (fun r => r.event) = some "Taken Branches") ∧
  ((pentiumSelected 0b110010 .zero).map (fun r => r.event) = some "Floating Point Stalls")

/-- 41_events_p6.md R201, R203 (masks and counters that a row does not admit: decisions D12 and D13, logs 12 and
13): on counter k, an event number and a unit mask select exactly a row of Table 6-2 with that number that admits
the mask and the counter, as qualified by the mask; event numbers are unique. -/
def Obligations.P6SelectionByTable : Prop :=
  (∀ (s : State) (p : PerfEvtSel) (k : CounterId) (x : SelectedEvent), s.selections.perfEvtSel k = some p →
    (s.selections.event k = some x ↔
      ∃ r, x = .p6 r (r.qualifier p.umsk) ∧ r ∈ p6Table ∧ r.evt = p.evt ∧
        r.masks.admits p.umsk = true ∧ r.counters.admits k = true)) ∧
  (∀ r r' : P6Row, r ∈ p6Table → r' ∈ p6Table → r.evt = r'.evt → r = r')

/-- 41_events_p6.md R204: the MESI unit mask. L2_LD, L2_ST and L2_RQSTS admit the masks 00H to 0FH and no other;
the states counted are those whose bit is set; with 00H the counter does not move. -/
def Obligations.MesiMaskSelectsStates : Prop :=
  ∀ (s : State) (k : CounterId) (e u : Byte), (e = 0x29 ∨ e = 0x2A ∨ e = 0x2E) →
    s.selections.perfEvtSel k = some ⟨e, u⟩ →
    (s.legal k = true ↔ u.toNat ≤ 0x0F) ∧
    (s.legal k = true → ∃ r l, s.selections.event k = some (.p6 r (.states l)) ∧
      (CacheState.m ∈ l ↔ u.getLsbD 3 = true) ∧ (CacheState.e ∈ l ↔ u.getLsbD 2 = true) ∧
      (CacheState.s ∈ l ↔ u.getLsbD 1 = true) ∧ (CacheState.i ∈ l ↔ u.getLsbD 0 = true)) ∧
    (u = 0x00 → (monitorRuns s).ctr k = s.ctr k)

/-- 41_events_p6.md R205: the Self/Any unit mask. Twelve EBL events admit exactly 00H (Self) and 20H (Any), and
three admit exactly 00H (Self). -/
def Obligations.EblMaskSelectsAgent : Prop :=
  ∀ (s : State) (k : CounterId) (e u : Byte), s.selections.perfEvtSel k = some ⟨e, u⟩ →
    (e ∈ [0x62, 0x63, 0x66, 0x68, 0x69, 0x6A, 0x6B, 0x6C, 0x6D, 0x6E, 0x70, 0x6F] →
      (s.legal k = true ↔ (u = 0x00 ∨ u = 0x20)) ∧
      (u = 0x00 → ∃ r, s.selections.event k = some (.p6 r (.agent .self))) ∧
      (u = 0x20 → ∃ r, s.selections.event k = some (.p6 r (.agent .any)))) ∧
    (e ∈ [0x61, 0x7A, 0x7E] →
      (s.legal k = true ↔ u = 0x00) ∧
      (u = 0x00 → ∃ r, s.selections.event k = some (.p6 r (.agent .self))))

/-- 41_events_p6.md R206 (the excluded counter: decision D13, log 13): the six events tied to one counter, and no
other restriction: under unit mask 00H every other event of the table is legal on both counters. -/
def Obligations.P6CounterRestrictions : Prop :=
  ∀ (s : State) (k : CounterId) (e : Byte), s.selections.perfEvtSel k = some ⟨e, 0x00⟩ →
    (e ∈ [0xC1, 0x10, 0x14] → (s.legal k = true ↔ k = .zero)) ∧
    (e ∈ [0x11, 0x12, 0x13] → (s.legal k = true ↔ k = .one)) ∧
    (e ∉ [0xC1, 0x10, 0x14, 0x11, 0x12, 0x13] → (∃ r, r ∈ p6Table ∧ r.evt = e) → s.legal k = true)

/-- 30_encoding.md R91: under a pair of event number and unit mask that Table 6-2 does not list, the counter's
value is any 40-bit value at every read: the monitor leaves a drawn value, and what a step reads (the low 40
bits of EDX:EAX) is one. -/
def Obligations.UnlistedP6EncodingUndefined : Prop :=
  ∀ (s : State) (k : CounterId) (e u : Byte), s.selections.perfEvtSel k = some ⟨e, u⟩ →
    (∀ r, r ∈ p6Table → r.evt = e → r.masks.admits u = false) →
    (∀ (n : Nat) (d : Counter), (monitorStep k n d s).ctr k = d) ∧
    (∀ t, counterIndex s.ecx = some k → step s = .next t →
      ∃ i, (t.pair.extractLsb' 0 40 : Counter) = Config.drawnCount i)

/-- 70_reset_and_hazards.md R371, 41_events_p6.md R207: which clock the EBL duration events count. -/
def Obligations.EblClocksByRow : Prop :=
  (∀ r, r ∈ p6Table → r.evt = 0x62 → r.clock 0x00 = some .bus ∧ r.clock 0x20 = some .processor) ∧
  (∀ r, r ∈ p6Table → r.evt = 0x63 → r.clock 0x00 = some .processor ∧ r.clock 0x20 = some .processor) ∧
  (∀ r, r ∈ p6Table → r.evt = 0x61 ∨ r.evt = 0x7A → r.clock 0x00 = some .bus) ∧
  (∀ r, r ∈ p6Table → r.evt = 0x7E → r.clock 0x00 = some .unstated)

/-! ### Reset and the end of a run -/

/-- 10_state.md R50, for both families (FAMILY: decision D1, log 1): CR4.PCE = 0 and CPL = 0 (the spec's own
choice, decision D15, log 18); the mode and the code size are PRESUMED with them (log 18); the other values, the
event selections of each family among them, are the model's DESIGN CHOICE (log 17). The host's reset state is the
Pentium family's. -/
def Obligations.ResetValues : Prop :=
  (∀ f : Family,
    (State.resetOf f).cr4Pce = false ∧ (State.resetOf f).cpl = 0 ∧
    (State.resetOf f).mode = .realAddress ∧ (State.resetOf f).codeSize = .bits16 ∧
    (State.resetOf f).eax = 0 ∧ (State.resetOf f).ecx = 0 ∧ (State.resetOf f).edx = 0 ∧ (State.resetOf f).eip = 0 ∧
    (State.resetOf f).ctr0 = 0 ∧ (State.resetOf f).ctr1 = 0 ∧ (State.resetOf f).cr4Tsd = false ∧
    (State.resetOf f).family = f ∧ (∀ a, Memory.read (State.resetOf f).mem a = none)) ∧
  (∀ k, (State.resetOf .pentium).selections.sel k = some 0) ∧
  (∀ k, (State.resetOf .p6).selections.perfEvtSel k = some { evt := 0, umsk := 0 }) ∧
  State.reset = State.resetOf .pentium

/-- 42_rdpmc.md R300, 30_encoding.md R80 (the reset values are logs 17 and 18): RDPMC placed at eip runs as the
first instruction after reset, in both families. -/
def Obligations.RdpmcRunsAfterReset : Prop :=
  ∀ f : Family, ∃ t, step ((State.resetOf f).withFetchWord 16 0x0F33) = .next t ∧ t.eip = 2 ∧ t.ecx = 0

/-- 70_reset_and_hazards.md R377 (decision D26, log 29): a run that ends does so in one way only, however long it
is given: Final with eip just past the last program byte, or Fault with a #GP(0) that no later step clears, or
Refused. That the configuration is that of the start is 60_exceptions.md R345 and R333 (decision D20, log 23: the
configurator takes no step during a run; log 28: no interrupt is taken). -/
def Obligations.RunEndingIsStable : Prop :=
  ∀ (n m : Nat) (s : State) (e : Ending), run n s = some e →
    run (n + m) s = some e ∧
    (∀ u, e = .final u → u.eip = u.programEnd ∧ SameConfiguration s u) ∧
    (∀ f, e = .faulted f → ∃ at_ kept, f = .generalProtection 0 at_ kept ∧ SameConfiguration s kept)

/-- 70_reset_and_hazards.md R377 (a), 60_exceptions.md R335, 95_test_vectors.md program 5 (decision D26, log 29;
log 40): a run that starts where nothing is left to run is Final at once, with the state unchanged except for the
monitor's draws: a counter with a legal selection gained its draw, modulo 2^40 (decision D7, log 7). -/
def Obligations.RunOfNothingOnlyCounts : Prop :=
  ∀ (n : Nat) (s : State), s.isFinal = true →
    ∃ u, run n s = some (.final u) ∧ SameButCounters s u ∧
      ∀ k, s.legal k = true →
        (u.ctr k).toNat = ((s.ctr k).toNat + s.increment k (s.draws + drawOffset k)) % 2 ^ 40
end

