-- ==== Sys2Proof/Laws/Memory.lean ====
section
/-! SUPPORT. The memory: reading after a write, the canonical form, the fetch window. -/

namespace Sys2Proof.Machine

/-- Every entry of a memory written to is an old entry or the one written. -/
theorem Memory.mem_write {m : List Host.Cell} {a : Nat} {b : Byte} {c : Host.Cell}
    (h : c ∈ Memory.write m a b) : c = (a, b) ∨ c ∈ m := by
  induction m with
  | nil => simpa [Memory.write] using h
  | cons d r ih =>
    obtain ⟨x, y⟩ := d
    simp only [Memory.write] at h
    split at h
    · simpa using h
    · split at h
      · rcases List.mem_cons.1 h with h | h
        · exact .inl h
        · exact .inr (List.mem_cons_of_mem _ h)
      · rcases List.mem_cons.1 h with h | h
        · exact .inr (h ▸ List.mem_cons_self)
        · exact (ih h).imp id (List.mem_cons_of_mem _)

/-- A write keeps the canonical form. -/
theorem Memory.write_wf {m : List Host.Cell} (h : Memory.wf m) (a : Nat) (b : Byte) :
    Memory.wf (Memory.write m a b) := by
  induction m with
  | nil => simp [Memory.write, Memory.wf]
  | cons d r ih =>
    obtain ⟨x, y⟩ := d
    obtain ⟨hd, hr⟩ := List.pairwise_cons.1 h
    simp only [Memory.write]
    split
    · rename_i hlt
      refine List.pairwise_cons.2 ⟨fun c hc => ?_, h⟩
      rcases List.mem_cons.1 hc with rfl | hc
      · exact hlt
      · exact Nat.lt_trans hlt (hd c hc)
    · split
      · rename_i _ heq
        subst heq
        exact List.pairwise_cons.2 ⟨hd, hr⟩
      · rename_i hge hne
        refine List.pairwise_cons.2 ⟨fun c hc => ?_, ih hr⟩
        rcases Memory.mem_write hc with rfl | hc
        · exact Nat.lt_of_le_of_ne (Nat.le_of_not_lt hge) (Ne.symm hne)
        · exact hd c hc

/-- Placing bytes keeps the canonical form. -/
theorem Memory.writeBytes_wf (bs : List Byte) :
    ∀ {m : List Host.Cell} (_ : Memory.wf m) (a : Nat), Memory.wf (Memory.writeBytes m a bs) := by
  induction bs with
  | nil => intro m h a; exact h
  | cons b r ih => intro m h a; exact ih (Memory.write_wf h a b) (a + 1)

/-- The memory at reset is in canonical form, in both families. -/
theorem Memory.resetOf_wf (f : Family) : Memory.wf (State.resetOf f).mem := List.Pairwise.nil

/-- The memory of the host's reset state is in canonical form. -/
theorem Memory.reset_wf : Memory.wf State.reset.mem := Memory.resetOf_wf .pentium

/-- An address below every listed one reads as no value. -/
theorem Memory.read_below {m : List Host.Cell} {a : Nat} (h : ∀ c ∈ m, a < c.1) : Memory.read m a = none := by
  induction m with
  | nil => rfl
  | cons d r ih =>
    obtain ⟨x, y⟩ := d
    have hx := h _ List.mem_cons_self
    have hne : x ≠ a := Nat.ne_of_gt hx
    simp only [Memory.read, if_neg hne]
    exact ih (fun c hc => h c (List.mem_cons_of_mem _ hc))

/-- Reading where a byte was written gives that byte. -/
theorem Memory.read_write_same (m : List Host.Cell) (a : Nat) (b : Byte) :
    Memory.read (Memory.write m a b) a = some b := by
  induction m with
  | nil => simp [Memory.write, Memory.read]
  | cons d r ih =>
    obtain ⟨x, y⟩ := d
    simp only [Memory.write]
    split
    · simp [Memory.read]
    · split
      · simp [Memory.read]
      · rename_i hne
        simp only [Memory.read, if_neg (Ne.symm hne)]
        exact ih

/-- A write leaves every other address alone. -/
theorem Memory.read_write_other (m : List Host.Cell) {a a' : Nat} (b : Byte) (h : a' ≠ a) :
    Memory.read (Memory.write m a b) a' = Memory.read m a' := by
  induction m with
  | nil => simp [Memory.write, Memory.read, h.symm]
  | cons d r ih =>
    obtain ⟨x, y⟩ := d
    simp only [Memory.write]
    split
    · simp [Memory.read, h.symm]
    · split
      · rename_i _ heq
        subst heq
        simp [Memory.read, h.symm]
      · simp only [Memory.read, ih]

/-- A byte that reads as a value is listed. -/
theorem Memory.mem_of_read {m : List Host.Cell} {a : Nat} {b : Byte} (h : Memory.read m a = some b) :
    (a, b) ∈ m := by
  induction m with
  | nil => simp [Memory.read, Memory.unlisted] at h
  | cons d r ih =>
    obtain ⟨x, y⟩ := d
    simp only [Memory.read] at h
    split at h
    · rename_i heq
      cases h
      exact heq ▸ List.mem_cons_self
    · exact List.mem_cons_of_mem _ (ih h)

/-- In canonical form no listed address lies above the last one. -/
theorem Memory.le_getLast {m : List Host.Cell} (h : Memory.wf m) {c d : Host.Cell} (hc : c ∈ m)
    (hd : m.getLast? = some d) : c.1 ≤ d.1 := by
  induction m generalizing c with
  | nil => cases hc
  | cons e r ih =>
    obtain ⟨he, hr⟩ := List.pairwise_cons.1 h
    cases r with
    | nil =>
      simp at hd hc
      rw [hc, hd]
    | cons f r =>
      have hd' : (f :: r).getLast? = some d := by simpa [List.getLast?_cons_cons] using hd
      rcases List.mem_cons.1 hc with rfl | hc
      · exact Nat.le_trans (Nat.le_of_lt (he f List.mem_cons_self)) (ih hr List.mem_cons_self hd')
      · exact ih hr hc hd'

/-- A listed byte lies before the program's end. -/
theorem State.lt_programEnd {s : State} (h : Memory.wf s.mem) {a : Nat} {b : Byte}
    (hr : Memory.read s.mem a = some b) : a < s.programEnd := by
  have hm := Memory.mem_of_read hr
  unfold State.programEnd
  cases hl : s.mem.getLast? with
  | none => rw [List.getLast?_eq_none_iff] at hl; simp [hl] at hm
  | some d => exact Nat.lt_succ_of_le (Memory.le_getLast h hm hl)

/-- The two bytes of a window of two are the bytes listed at the address and at the next one. -/
theorem Memory.window_two {m : List Host.Cell} {a : Nat} {b0 b1 : Byte}
    (h : Memory.window m a 2 = [b0, b1]) : Memory.read m a = some b0 ∧ Memory.read m (a + 1) = some b1 := by
  simp only [Memory.window] at h
  cases h0 : Memory.read m a with
  | none => simp [h0] at h
  | some c0 =>
    cases h1 : Memory.read m (a + 1) with
    | none => simp [h0, h1] at h
    | some c1 =>
      simp [h0, h1] at h
      simp [h.1, h.2]

end Sys2Proof.Machine
end

