-- ==== Sys2Proof/Laws/State.lean ====
section
/-! SUPPORT. One lemma per field per update of the state, so that no later proof unfolds a record update. -/

namespace Sys2Proof.Machine

/-! ### `advance` -/

@[simp] theorem State.advance_eax (s : State) (n : Nat) : (s.advance n).eax = s.eax := rfl
@[simp] theorem State.advance_ecx (s : State) (n : Nat) : (s.advance n).ecx = s.ecx := rfl
@[simp] theorem State.advance_edx (s : State) (n : Nat) : (s.advance n).edx = s.edx := rfl
@[simp] theorem State.advance_eip (s : State) (n : Nat) : (s.advance n).eip = s.eip + n := rfl
@[simp] theorem State.advance_ctr0 (s : State) (n : Nat) : (s.advance n).ctr0 = s.ctr0 := rfl
@[simp] theorem State.advance_ctr1 (s : State) (n : Nat) : (s.advance n).ctr1 = s.ctr1 := rfl
@[simp] theorem State.advance_selections (s : State) (n : Nat) : (s.advance n).selections = s.selections := rfl
@[simp] theorem State.advance_cr4Pce (s : State) (n : Nat) : (s.advance n).cr4Pce = s.cr4Pce := rfl
@[simp] theorem State.advance_cr4Tsd (s : State) (n : Nat) : (s.advance n).cr4Tsd = s.cr4Tsd := rfl
@[simp] theorem State.advance_cpl (s : State) (n : Nat) : (s.advance n).cpl = s.cpl := rfl
@[simp] theorem State.advance_mode (s : State) (n : Nat) : (s.advance n).mode = s.mode := rfl
@[simp] theorem State.advance_codeSize (s : State) (n : Nat) : (s.advance n).codeSize = s.codeSize := rfl
@[simp] theorem State.advance_mem (s : State) (n : Nat) : (s.advance n).mem = s.mem := rfl
@[simp] theorem State.advance_progBase (s : State) (n : Nat) : (s.advance n).progBase = s.progBase := rfl
@[simp] theorem State.advance_draws (s : State) (n : Nat) : (s.advance n).draws = s.draws := rfl

/-! ### `setPair` -/

@[simp] theorem State.setPair_eax (s : State) (v : Pair) : (s.setPair v).eax = v.extractLsb' 0 32 := rfl
@[simp] theorem State.setPair_ecx (s : State) (v : Pair) : (s.setPair v).ecx = s.ecx := rfl
@[simp] theorem State.setPair_edx (s : State) (v : Pair) : (s.setPair v).edx = v.extractLsb' 32 32 := rfl
@[simp] theorem State.setPair_eip (s : State) (v : Pair) : (s.setPair v).eip = s.eip := rfl
@[simp] theorem State.setPair_ctr0 (s : State) (v : Pair) : (s.setPair v).ctr0 = s.ctr0 := rfl
@[simp] theorem State.setPair_ctr1 (s : State) (v : Pair) : (s.setPair v).ctr1 = s.ctr1 := rfl
@[simp] theorem State.setPair_selections (s : State) (v : Pair) : (s.setPair v).selections = s.selections := rfl
@[simp] theorem State.setPair_cr4Pce (s : State) (v : Pair) : (s.setPair v).cr4Pce = s.cr4Pce := rfl
@[simp] theorem State.setPair_cr4Tsd (s : State) (v : Pair) : (s.setPair v).cr4Tsd = s.cr4Tsd := rfl
@[simp] theorem State.setPair_cpl (s : State) (v : Pair) : (s.setPair v).cpl = s.cpl := rfl
@[simp] theorem State.setPair_mode (s : State) (v : Pair) : (s.setPair v).mode = s.mode := rfl
@[simp] theorem State.setPair_codeSize (s : State) (v : Pair) : (s.setPair v).codeSize = s.codeSize := rfl
@[simp] theorem State.setPair_mem (s : State) (v : Pair) : (s.setPair v).mem = s.mem := rfl
@[simp] theorem State.setPair_progBase (s : State) (v : Pair) : (s.setPair v).progBase = s.progBase := rfl
@[simp] theorem State.setPair_draws (s : State) (v : Pair) : (s.setPair v).draws = s.draws := rfl

/-! ### `setCtr` -/

@[simp] theorem State.setCtr_eax (s : State) (k : CounterId) (v : Counter) : (s.setCtr k v).eax = s.eax := by
  cases k <;> rfl
@[simp] theorem State.setCtr_ecx (s : State) (k : CounterId) (v : Counter) : (s.setCtr k v).ecx = s.ecx := by
  cases k <;> rfl
@[simp] theorem State.setCtr_edx (s : State) (k : CounterId) (v : Counter) : (s.setCtr k v).edx = s.edx := by
  cases k <;> rfl
@[simp] theorem State.setCtr_eip (s : State) (k : CounterId) (v : Counter) : (s.setCtr k v).eip = s.eip := by
  cases k <;> rfl
@[simp] theorem State.setCtr_selections (s : State) (k : CounterId) (v : Counter) : (s.setCtr k v).selections = s.selections := by
  cases k <;> rfl
@[simp] theorem State.setCtr_cr4Pce (s : State) (k : CounterId) (v : Counter) : (s.setCtr k v).cr4Pce = s.cr4Pce := by
  cases k <;> rfl
@[simp] theorem State.setCtr_cr4Tsd (s : State) (k : CounterId) (v : Counter) : (s.setCtr k v).cr4Tsd = s.cr4Tsd := by
  cases k <;> rfl
@[simp] theorem State.setCtr_cpl (s : State) (k : CounterId) (v : Counter) : (s.setCtr k v).cpl = s.cpl := by
  cases k <;> rfl
@[simp] theorem State.setCtr_mode (s : State) (k : CounterId) (v : Counter) : (s.setCtr k v).mode = s.mode := by
  cases k <;> rfl
@[simp] theorem State.setCtr_codeSize (s : State) (k : CounterId) (v : Counter) : (s.setCtr k v).codeSize = s.codeSize := by
  cases k <;> rfl
@[simp] theorem State.setCtr_mem (s : State) (k : CounterId) (v : Counter) : (s.setCtr k v).mem = s.mem := by
  cases k <;> rfl
@[simp] theorem State.setCtr_progBase (s : State) (k : CounterId) (v : Counter) : (s.setCtr k v).progBase = s.progBase := by
  cases k <;> rfl
@[simp] theorem State.setCtr_draws (s : State) (k : CounterId) (v : Counter) : (s.setCtr k v).draws = s.draws := by
  cases k <;> rfl

@[simp] theorem State.ctr_setCtr_same (s : State) (k : CounterId) (v : Counter) : (s.setCtr k v).ctr k = v := by
  cases k <;> rfl

theorem State.ctr_setCtr_other (s : State) (v : Counter) {j k : CounterId} (h : j ≠ k) :
    (s.setCtr k v).ctr j = s.ctr j := by
  cases j <;> cases k <;> first | rfl | exact absurd rfl h

@[simp] theorem State.setCtr_ctr (s : State) (k : CounterId) : s.setCtr k (s.ctr k) = s := by
  cases k <;> rfl

@[simp] theorem State.setCtr_setCtr (s : State) (k : CounterId) (v w : Counter) :
    (s.setCtr k v).setCtr k w = s.setCtr k w := by
  cases k <;> rfl

/-! ### Derived views under the updates -/

@[simp] theorem State.ctr_advance (s : State) (n : Nat) (k : CounterId) : (s.advance n).ctr k = s.ctr k := by
  cases k <;> rfl

@[simp] theorem State.ctr_setPair (s : State) (v : Pair) (k : CounterId) : (s.setPair v).ctr k = s.ctr k := by
  cases k <;> rfl

@[simp] theorem State.legal_setCtr (s : State) (k j : CounterId) (v : Counter) :
    (s.setCtr k v).legal j = s.legal j := by
  cases k <;> rfl

@[simp] theorem State.countsNothing_setCtr (s : State) (k j : CounterId) (v : Counter) :
    (s.setCtr k v).countsNothing j = s.countsNothing j := by
  cases k <;> rfl

@[simp] theorem State.increment_setCtr (s : State) (k j : CounterId) (v : Counter) (i : Nat) :
    (s.setCtr k v).increment j i = s.increment j i := by
  cases k <;> rfl

@[simp] theorem State.pair_setPair (s : State) (v : Pair) : (s.setPair v).pair = v := by
  simp only [State.pair, State.setPair_eax, State.setPair_edx]
  apply BitVec.eq_of_getLsbD_eq
  intro i h
  rw [BitVec.getLsbD_append]
  by_cases hi : i < 32
  · simp [hi]
  · have h32 : 32 + (i - 32) = i := by omega
    have hlt : i - 32 < 32 := by omega
    simp [hi, hlt, h32]

@[simp] theorem State.pair_advance (s : State) (n : Nat) : (s.advance n).pair = s.pair := rfl

/-! ### `sampleCounter` -/

@[simp] theorem sampleCounter_eax (k : CounterId) (s : State) : (sampleCounter k s).eax = (placeCounter (s.ctr k)).extractLsb' 0 32 := rfl
@[simp] theorem sampleCounter_ecx (k : CounterId) (s : State) : (sampleCounter k s).ecx = s.ecx := rfl
@[simp] theorem sampleCounter_edx (k : CounterId) (s : State) : (sampleCounter k s).edx = (placeCounter (s.ctr k)).extractLsb' 32 32 := rfl
@[simp] theorem sampleCounter_eip (k : CounterId) (s : State) : (sampleCounter k s).eip = s.eip + 2 := rfl
@[simp] theorem State.legal_sampleCounter (k j : CounterId) (s : State) :
    (sampleCounter k s).legal j = s.legal j := rfl

@[simp] theorem State.countsNothing_sampleCounter (k j : CounterId) (s : State) :
    (sampleCounter k s).countsNothing j = s.countsNothing j := rfl

@[simp] theorem State.increment_sampleCounter (k j : CounterId) (s : State) (i : Nat) :
    (sampleCounter k s).increment j i = s.increment j i := rfl

@[simp] theorem sampleCounter_ctr0 (k : CounterId) (s : State) : (sampleCounter k s).ctr0 = s.ctr0 := rfl
@[simp] theorem sampleCounter_ctr1 (k : CounterId) (s : State) : (sampleCounter k s).ctr1 = s.ctr1 := rfl
@[simp] theorem sampleCounter_selections (k : CounterId) (s : State) : (sampleCounter k s).selections = s.selections := rfl
@[simp] theorem sampleCounter_cr4Pce (k : CounterId) (s : State) : (sampleCounter k s).cr4Pce = s.cr4Pce := rfl
@[simp] theorem sampleCounter_cr4Tsd (k : CounterId) (s : State) : (sampleCounter k s).cr4Tsd = s.cr4Tsd := rfl
@[simp] theorem sampleCounter_cpl (k : CounterId) (s : State) : (sampleCounter k s).cpl = s.cpl := rfl
@[simp] theorem sampleCounter_mode (k : CounterId) (s : State) : (sampleCounter k s).mode = s.mode := rfl
@[simp] theorem sampleCounter_codeSize (k : CounterId) (s : State) : (sampleCounter k s).codeSize = s.codeSize := rfl
@[simp] theorem sampleCounter_mem (k : CounterId) (s : State) : (sampleCounter k s).mem = s.mem := rfl
@[simp] theorem sampleCounter_progBase (k : CounterId) (s : State) : (sampleCounter k s).progBase = s.progBase := rfl
@[simp] theorem sampleCounter_draws (k : CounterId) (s : State) : (sampleCounter k s).draws = s.draws := rfl

@[simp] theorem sampleCounter_ctr (k j : CounterId) (s : State) : (sampleCounter k s).ctr j = s.ctr j := by
  cases j <;> rfl

@[simp] theorem sampleCounter_pair (k : CounterId) (s : State) :
    (sampleCounter k s).pair = placeCounter (s.ctr k) := by
  simp [sampleCounter]

end Sys2Proof.Machine
end

