-- ==== Sys2Proof/Laws/Monitor.lean ====
section
/-! SUPPORT. What the monitor can do, said once. -/

namespace Sys2Proof.Machine

/-- A step of the monitor writes one counter and nothing else. -/
theorem monitorStep_eq (k : CounterId) (n : Nat) (d : Counter) (s : State) :
    monitorStep k n d s
      = s.setCtr k (if s.legal k then BitVec.ofNat 40 ((s.ctr k).toNat + n) else d) := by
  unfold monitorStep
  split <;> simp_all

/-- A draw writes its counter and the count of draws. -/
theorem monitorDraw_eq (k : CounterId) (s : State) :
    monitorDraw k s = { s.setCtr k (drawnValue k s.draws s) with draws := s.draws + 1 } := by
  unfold monitorDraw drawnValue
  rw [monitorStep_eq]

/-- The monitor's two draws, spelled out: each counter gets a value of its own, and nothing but the counters
and the count of draws changes. -/
theorem monitorRuns_eq (s : State) :
    monitorRuns s = { s with
      ctr0 := drawnValue .zero s.draws s
      ctr1 := drawnValue .one (s.draws + 1) s
      draws := s.draws + 2 } := by
  unfold monitorRuns
  rw [monitorDraw_eq, monitorDraw_eq]
  rfl

/-! ### The monitor's frame -/

@[simp] theorem monitorRuns_eax (s : State) : (monitorRuns s).eax = s.eax := by
  rw [monitorRuns_eq]
@[simp] theorem monitorRuns_ecx (s : State) : (monitorRuns s).ecx = s.ecx := by
  rw [monitorRuns_eq]
@[simp] theorem monitorRuns_edx (s : State) : (monitorRuns s).edx = s.edx := by
  rw [monitorRuns_eq]
@[simp] theorem monitorRuns_eip (s : State) : (monitorRuns s).eip = s.eip := by
  rw [monitorRuns_eq]
@[simp] theorem monitorRuns_selections (s : State) : (monitorRuns s).selections = s.selections := by
  rw [monitorRuns_eq]
@[simp] theorem monitorRuns_cr4Pce (s : State) : (monitorRuns s).cr4Pce = s.cr4Pce := by
  rw [monitorRuns_eq]
@[simp] theorem monitorRuns_cr4Tsd (s : State) : (monitorRuns s).cr4Tsd = s.cr4Tsd := by
  rw [monitorRuns_eq]
@[simp] theorem monitorRuns_cpl (s : State) : (monitorRuns s).cpl = s.cpl := by
  rw [monitorRuns_eq]
@[simp] theorem monitorRuns_mode (s : State) : (monitorRuns s).mode = s.mode := by
  rw [monitorRuns_eq]
@[simp] theorem monitorRuns_codeSize (s : State) : (monitorRuns s).codeSize = s.codeSize := by
  rw [monitorRuns_eq]
@[simp] theorem monitorRuns_mem (s : State) : (monitorRuns s).mem = s.mem := by
  rw [monitorRuns_eq]
@[simp] theorem monitorRuns_progBase (s : State) : (monitorRuns s).progBase = s.progBase := by
  rw [monitorRuns_eq]
@[simp] theorem monitorRuns_draws (s : State) : (monitorRuns s).draws = s.draws + 2 := by
  rw [monitorRuns_eq]

@[simp] theorem monitorRuns_pair (s : State) : (monitorRuns s).pair = s.pair := by
  simp [State.pair]

@[simp] theorem monitorRuns_legal (s : State) (k : CounterId) : (monitorRuns s).legal k = s.legal k := by
  simp [State.legal]

@[simp] theorem monitorRuns_countsNothing (s : State) (k : CounterId) :
    (monitorRuns s).countsNothing k = s.countsNothing k := by
  simp [State.countsNothing]

@[simp] theorem monitorRuns_programEnd (s : State) : (monitorRuns s).programEnd = s.programEnd := by
  simp [State.programEnd]

/-- The value that each counter has after the monitor ran. -/
theorem monitorRuns_ctr (s : State) (k : CounterId) :
    (monitorRuns s).ctr k = drawnValue k (s.draws + drawOffset k) s := by
  rw [monitorRuns_eq]
  cases k <;> rfl

/-- The draws for a counter depend on its selection alone, which the monitor does not change. -/
@[simp] theorem monitorRuns_increment (s : State) (k : CounterId) (i : Nat) :
    (monitorRuns s).increment k i = s.increment k i := by
  simp [State.increment]

/-- Where nothing is counted, every draw is 0. -/
theorem increment_countsNothing {k : CounterId} {s : State} (i : Nat) (h : s.countsNothing k = true) :
    s.increment k i = 0 := by
  simp [State.increment, h]

/-- A legal selection adds its draw, modulo 2^40. -/
theorem drawnValue_legal {k : CounterId} {s : State} (i : Nat) (h : s.legal k = true) :
    drawnValue k i s = BitVec.ofNat 40 ((s.ctr k).toNat + s.increment k i) := by
  rw [drawnValue, if_pos h]

/-- A selection under which nothing is counted is a legal one. -/
theorem legal_of_countsNothing {k : CounterId} {s : State} (h : s.countsNothing k = true) : s.legal k = true := by
  unfold State.countsNothing at h
  unfold State.legal
  cases he : s.selections.event k with
  | none => rw [he] at h; cases h
  | some _ => rfl

/-- What a run of the monitor adds to a legal counter, as a number. -/
theorem monitorRuns_ctr_toNat {k : CounterId} {s : State} (h : s.legal k = true) :
    ((monitorRuns s).ctr k).toNat
      = ((s.ctr k).toNat + s.increment k (s.draws + drawOffset k)) % 2 ^ 40 := by
  rw [monitorRuns_ctr, drawnValue_legal _ h, BitVec.toNat_ofNat]

/-- A counter that counts nothing stands still. -/
theorem monitorRuns_ctr_still {k : CounterId} {s : State} (h : s.countsNothing k = true) :
    (monitorRuns s).ctr k = s.ctr k := by
  rw [monitorRuns_ctr, drawnValue_legal _ (legal_of_countsNothing h), increment_countsNothing _ h]
  simp

/-- A selection that is not legal leaves the drawn value. -/
theorem drawnValue_reserved {k : CounterId} {s : State} (i : Nat) (h : s.legal k = false) :
    drawnValue k i s = Config.drawnCount i := by
  simp [drawnValue, h]

end Sys2Proof.Machine
end

