-- ==== Sys2Proof/Laws/PerInstr.lean ====
section
/-! SUPPORT. Facts for all instructions, one lemma per constructor (LAWS.json). -/

namespace Sys2Proof.Laws.EncodedLength

/-- An instruction's encoding has the length that its well-formedness asks of it (30_encoding.md R80, R86). -/
def Statement (i : Instr) : Prop :=
  i.wellFormed = true → encodingLengthOk (encode i) = true

theorem rdpmc : Statement .rdpmc := fun _ => rfl

end Sys2Proof.Laws.EncodedLength
end

