-- ==== Sys2Proof/Laws/Step.lean ====
section
/-! SUPPORT. What RDPMC and a step can do, said once: the inversion lemmas that later proofs cite instead of
unfolding `execRdpmc`, `fetchDecode` and `step`. -/

namespace Sys2Proof.Machine

/-- The index operand: which values of ECX name which counter. -/
theorem counterIndex_eq_some {e : Reg} {k : CounterId} :
    counterIndex e = some k ↔ (e = 0 ∧ k = .zero) ∨ (e = 1 ∧ k = .one) := by
  unfold counterIndex
  split
  · rename_i h
    subst h
    cases k <;> simp
  · split
    · rename_i h
      subst h
      cases k <;> simp
    · simp_all

/-- If RDPMC completes, both checks passed and it sampled the counter that ECX names. -/
theorem execRdpmc_next {s t : State} (h : execRdpmc s = .next t) :
    ∃ k, rdpmcPermitted s = true ∧ counterIndex s.ecx = some k ∧ t = sampleCounter k s := by
  unfold execRdpmc at h
  split at h
  · rename_i hp
    split at h
    · rename_i k hk
      cases h
      exact ⟨k, hp, hk, rfl⟩
    · cases h
  · cases h

/-- If RDPMC faults, it raised #GP(0) at eip and kept the state. -/
theorem execRdpmc_fault {s : State} {f : Fault} (h : execRdpmc s = .fault f) :
    f = .generalProtection 0 s.eip s ∧ (rdpmcPermitted s = false ∨ counterIndex s.ecx = none) := by
  unfold execRdpmc at h
  split at h
  · split at h
    · cases h
    · rename_i hk
      cases h
      exact ⟨rfl, .inr hk⟩
  · rename_i hp
    cases h
    exact ⟨rfl, .inl (by simpa using hp)⟩

/-- RDPMC is never refused. -/
theorem execRdpmc_not_refused (s : State) (r : Refusal) : execRdpmc s ≠ .refused r := by
  unfold execRdpmc
  split
  · split <;> simp [raiseGeneralProtection]
  · simp [raiseGeneralProtection]

/-- If an instruction is fetched, its bytes are the two at eip and do not wrap. -/
theorem fetchDecode_ok {s : State} {i : Instr} (h : fetchDecode s = .ok i) :
    (∃ rest, decode (Memory.window s.mem s.eip Config.rdpmcLength) = .ok (i, rest)) ∧
      s.eip + Config.rdpmcLength ≤ Config.addressLimit := by
  unfold fetchDecode at h
  split at h
  · cases h
  · split at h
    · cases h
    · rename_i hle
      split at h
      · rename_i i' rest hd
        cases h
        exact ⟨⟨rest, hd⟩, Nat.le_of_not_lt hle⟩
      · cases h

/-- If a step completes, an instruction was fetched and completed, with the monitor before it and after it. -/
theorem step_next {s t : State} (h : step s = .next t) :
    ∃ i u, fetchDecode (monitorRuns s) = .ok i ∧ exec i (monitorRuns s) = .next u ∧ t = monitorRuns u := by
  unfold step at h
  simp only at h
  split at h
  · cases h
  · rename_i i hi
    cases he : exec i (monitorRuns s) with
    | next u =>
      rw [he] at h
      cases h
      exact ⟨i, u, hi, he, rfl⟩
    | fault f => rw [he] at h; cases h
    | refused r => rw [he] at h; cases h

/-- If a step faults, an instruction was fetched and faulted, after the monitor acted once. -/
theorem step_fault {s : State} {f : Fault} (h : step s = .fault f) :
    ∃ i, fetchDecode (monitorRuns s) = .ok i ∧ exec i (monitorRuns s) = .fault f := by
  unfold step at h
  simp only at h
  split at h
  · cases h
  · rename_i i hi
    cases he : exec i (monitorRuns s) with
    | next u => rw [he] at h; cases h
    | fault g => rw [he] at h; cases h; exact ⟨i, hi, he⟩
    | refused r => rw [he] at h; cases h

end Sys2Proof.Machine
end

