-- ==== Sys2Proof/Tests/Slice0.lean ====
section
/-! SUPPORT. The model's own tests. Expected results are the vectors of 95_test_vectors.md and the tables of spec/;
and for each statement with hypotheses a witness that meets them. -/

namespace Sys2Proof.Tests

open Sys2Proof.Machine

/-! ### Small states -/

/-- A state with CR4.PCE, CPL, ECX and the two counters given; eip at 1000H, old EAX and EDX set. -/
def mk (pce : Bool) (cpl : Fin 4) (ecx : Reg) (c0 c1 : Counter) : State :=
  { State.reset with
    cr4Pce := pce, cpl := cpl, ecx := ecx, ctr0 := c0, ctr1 := c1, mode := .protectedMode, codeSize := .bits32
    eax := 0xCCCCCCCC, edx := 0xFFFFFFFF, eip := 0x1000, progBase := 0x1000 }

/-- The same with program bytes from eip. -/
def mkProg (pce : Bool) (cpl : Fin 4) (ecx : Reg) (bytes : List Byte) : State :=
  { mk pce cpl ecx 7 9 with mem := Memory.writeBytes [] 0x1000 bytes }

/-- The P6 family with one selection on both counters. -/
def mkP6 (e u : Byte) : State :=
  { mkProg true 3 0 [0x0F, 0x33] with selections := .p6 ⟨e, u⟩ ⟨e, u⟩ }

/-- The Pentium family with one code on both counters. -/
def mkPentium (c : PentiumCode) : State :=
  { mkProg true 3 0 [0x0F, 0x33] with selections := .pentium c c }

/-- RDPMC completed with these EAX and EDX, and moved eip by 2. -/
def completedWith (o : Host.Outcome State Fault Refusal) (eax edx : Reg) : Bool :=
  match o with
  | .next t => t.eax == eax && t.edx == edx && t.eip == 0x1002
  | _ => false

/-- RDPMC raised #GP(0) at 1000H and kept this state. -/
def faultedIn (o : Host.Outcome State Fault Refusal) (s : State) : Bool :=
  match o with
  | .fault f => f == .generalProtection 0 0x1000 s
  | _ => false

/-! ### Encoding (30_encoding.md R80, 95_test_vectors.md program 5) -/

/-- R80: byte 0 is 0000 1111, byte 1 is 0011 0011. -/
theorem test_rdpmc_word_bit_by_bit : decode [0b00001111, 0b00110011] = .ok (.rdpmc, []) := by decide

/-- The table's word: match 0x0F33, first byte most significant. -/
theorem test_rdpmc_table_word : decodeTableWord 16 0b0000111100110011 = some .rdpmc := by decide

theorem test_encode_rdpmc : encode .rdpmc = [0x0F, 0x33] := by decide

/-- Program 5: one byte, RDTSC, the bytes in the wrong order, a prefixed form. -/
theorem test_refused_bytes :
    decode [0x0F] = .error .truncated ∧ decode [0x0F, 0x31] = .error .rdtsc ∧
      decode [0x33, 0x0F] = .error (.notInSpec 0x33 0x0F) ∧
      decode [0x66, 0x0F, 0x33] = .error (.prefixedForm 0x66) := by decide

/-- The well-formedness smoke test: a term of a wrong length is refused, on each side of two bytes. -/
theorem test_ill_formed_lengths :
    encodingLengthOk [0x0F] = false ∧ encodingLengthOk [0x66, 0x0F, 0x33] = false ∧
      encodingLengthOk [] = false ∧ encodingLengthOk [0x0F, 0x33] = true := by decide

/-! ### RDPMC (95_test_vectors.md 2.1 to 2.3) -/

/-- Vectors V1 to V10. -/
theorem test_rdpmc_vectors_complete :
    ([(mk false 0 0 0 0xFFFFFFFFFF, 0x00000000, 0x00000000), (mk false 0 1 0 0xFFFFFFFFFF, 0xFFFFFFFF, 0x000000FF),
      (mk true 3 0 0x123456789A 0, 0x3456789A, 0x00000012), (mk true 3 1 0 0xAB12345678, 0x12345678, 0x000000AB),
      (mk true 0 0 0x8000000000 0, 0x00000000, 0x00000080), (mk true 1 0 0x00FFFFFFFF 0, 0xFFFFFFFF, 0x00000000),
      (mk true 2 1 0 0x0100000000, 0x00000000, 0x00000001),
      (mk false 0 1 0x1111111111 0x5500000000, 0x00000000, 0x00000055),
      (mk true 3 0 0x00DEADBEEF 0, 0xDEADBEEF, 0x00000000),
      (mk true 3 0 0x7FFFFFFFFF 0, 0xFFFFFFFF, 0x0000007F)] : List (State × Reg × Reg)).all
      (fun v => completedWith (exec .rdpmc v.1) v.2.1 v.2.2) = true := by decide

/-- Vectors F1 to F10. -/
theorem test_rdpmc_vectors_fault :
    [mk false 3 0 5 6, mk false 1 0 5 6, mk false 2 1 5 6, mk false 0 2 5 6, mk true 0 0xFFFFFFFF 5 6,
      mk true 3 0x00010000 5 6, mk true 3 0x00010001 5 6, mk true 3 0x80000000 5 6, mk false 3 2 5 6,
      mk true 0 0x00000100 5 6].all (fun s => faultedIn (exec .rdpmc s) s) = true := by decide

/-- Vectors M2 to M6: 16-bit code, VM mode and real-address mode. -/
theorem test_rdpmc_modes :
    completedWith (exec .rdpmc { mk true 3 0 0x123456789A 0 with codeSize := .bits16 }) 0x3456789A 0x12 = true ∧
      completedWith (exec .rdpmc { mk true 3 0 0x123456789A 0 with mode := .vm, codeSize := .bits16 })
        0x3456789A 0x12 = true ∧
      (let s := { mk false 3 0 0x123456789A 0 with mode := .vm, codeSize := .bits16 }
       faultedIn (exec .rdpmc s) s = true) ∧
      completedWith (exec .rdpmc { mk false 0 0 0x123456789A 0 with mode := .realAddress, codeSize := .bits16 })
        0x3456789A 0x12 = true ∧
      (let s := { mk false 0 0x00020000 0x123456789A 0 with mode := .realAddress, codeSize := .bits16 }
       faultedIn (exec .rdpmc s) s = true) := by decide

/-! ### The monitor and the tables (95_test_vectors.md 2.4 to 2.6) -/

/-- Vectors S1 to S8, under Pentium code 000000 on counter 0; the last under the Reserved code 16. -/
theorem test_monitor_vectors :
    ([(0, 0, 0), (0x123456789A, 0x10, 0x12345678AA), (0x00FFFFFFFF, 1, 0x0100000000), (0xFFFFFFFFFF, 1, 0),
      (0xFFFFFFFFFE, 5, 3), (0xFFFFFFFF00, 0x1FF, 0xFF), (5, 0x10000000000, 5), (5, 0x10000000003, 8)]
      : List (Counter × Nat × Counter)).all
      (fun v => (monitorStep .zero v.2.1 0x77 (mk true 3 0 v.1 0)).ctr .zero == v.2.2) = true ∧
    (monitorStep .zero 3 0x77 (mkPentium 16)).ctr .zero = 0x77 := by decide

/-- Vectors P1 to P18 that name an event: the event each pair of code and counter counts. -/
theorem test_pentium_events :
    ([(0b000000, .zero, "Data Read"), (0b000000, .one, "Data Read"), (0b010110, .zero, "Instructions Executed"),
      (0b101011, .zero, "MMX(TM) instructions executed in u-pipe"),
      (0b101011, .one, "MMX instructions executed in v-pipe"), (0b110010, .zero, "Floating Point Stalls"),
      (0b110010, .one, "Taken Branches"), (0b110000, .zero, "Number of Cycles Not in HLT State"),
      (0b101110, .one, "Writes to Non-Cacheable Memory"),
      (0b110011, .one, "D1 Starvation and one instruction in FIFO"),
      (0b111011, .one, "Stall on MMX instruction write to E or M line")] : List (PentiumCode × CounterId × String)).all
      (fun v => (pentiumSelected v.1 v.2.1).map (fun r => r.event) == some v.2.2) = true := by decide +kernel

/-- Counting of section 2.5: 69 rows, 102 legal pairs of 128; every serial equals its code (R8). -/
theorem test_pentium_counts :
    pentiumTable.length = 69 ∧ pentiumTable.all (fun r => r.serial == r.code.toNat) = true ∧
      ((List.range 64).map (fun c => [CounterId.zero, .one].countP
        (fun k => (pentiumSelected (BitVec.ofNat 6 c) k).isSome))).sum = 102 := by decide +kernel

/-- Vectors Q1 to Q22: which P6 encodings are legal, on which counter. -/
theorem test_p6_vectors :
    ([(0xC0, 0x00, .zero, true), (0xC0, 0x00, .one, true), (0x79, 0x00, .zero, true), (0x29, 0x0F, .zero, true),
      (0x29, 0x08, .zero, true), (0x2E, 0x06, .one, true), (0x29, 0x00, .zero, true), (0x29, 0x10, .zero, false),
      (0x24, 0x0F, .zero, false), (0x66, 0x00, .zero, true), (0x66, 0x20, .zero, true), (0x66, 0x0F, .zero, false),
      (0x61, 0x00, .one, true), (0x61, 0x20, .one, false), (0xC1, 0x00, .zero, true), (0xC1, 0x00, .one, false),
      (0x12, 0x00, .one, true), (0x12, 0x00, .zero, false), (0x00, 0x00, .zero, false), (0xFF, 0x00, .zero, false),
      (0x62, 0x20, .zero, true), (0x62, 0x00, .zero, true)] : List (Byte × Byte × CounterId × Bool)).all
      (fun v => (p6Selected ⟨v.1, v.2.1⟩ v.2.2.1).isSome == v.2.2.2) = true := by decide +kernel

/-- Counting of section 2.6: 60 rows; 114 legal encodings on each counter, row by row. -/
theorem test_p6_counts :
    p6Table.length = 60 ∧
      [CounterId.zero, .one].map (fun k => ((p6Table.filter (fun r => r.counters.admits k)).map
        (fun r => (List.range 256).countP (fun u => r.masks.admits (BitVec.ofNat 8 u)))).sum) = [114, 114] := by
  decide +kernel

/-- Vectors Q4 to Q7: the cache states that a MESI mask counts, and the counter that does not move. -/
theorem test_mesi_states :
    countedStates 0x0F = [.m, .e, .s, .i] ∧ countedStates 0x08 = [.m] ∧ countedStates 0x06 = [.e, .s] ∧
      (mkP6 0x29 0x00).countsNothing .zero = true ∧ (mkP6 0x29 0x01).countsNothing .zero = false ∧
      (mkP6 0x24 0x00).countsNothing .zero = false := by decide +kernel

/-! ### State, privilege, launch -/

/-- R5: NCTR is 2, so 1 is the last index and 2 is none; CR4.PCE is bit 8 and no other position is given. -/
theorem test_parameters :
    counterIndex (BitVec.ofNat 32 (Config.nctr - 1)) = some .one ∧
      counterIndex (BitVec.ofNat 32 Config.nctr) = none ∧
      (mk true 0 0 0 0).cr4Bit 8 = some true ∧ (mk true 0 0 0 0).cr4Bit 2 = none ∧
      (mk true 0 0 0 0).family = .pentium ∧ (mkP6 0xC0 0).family = .p6 := by decide

/-- A launch as in program 1. -/
def launch1 : Launch where
  selections := .pentium 0b010110 0b010110
  ctr0 := 0
  ctr1 := 0xAB12345678
  cr4Pce := true
  cr4Tsd := false
  cpl := 3
  mode := .protectedMode
  codeSize := .bits32
  eax := 0xCCCCCCCC
  ecx := 1
  edx := 0xCCCCCCCC
  eip := 0x1000
  progBase := 0x1000
  program := [0x0F, 0x33]

/-- Each check of a launch refuses an ill-formed one. -/
theorem test_ill_formed_launches :
    launch1.wellFormed = true ∧ { launch1 with mode := .realAddress }.wellFormed = false ∧
      { launch1 with mode := .vm, cpl := 0 }.wellFormed = false ∧
      { launch1 with progBase := 0xFFFFFFFF, eip := 0xFFFFFFFF }.wellFormed = false ∧
      { launch1 with eip := 0xFFF }.wellFormed = false ∧ { launch1 with eip := 0x1003 }.wellFormed = false := by
  decide

/-- Program 1: the step completes, and the run is Final after it; EDX is below 100H whatever is drawn. -/
theorem test_program1_final : ∃ u, run 1 launch1.start = some (.final u) ∧ u.eip = 0x1002 ∧ u.ecx = 1 :=
  ⟨_, rfl, rfl, rfl⟩

/-- An empty program is Final at once, unchanged except for the monitor's draws (program 5, last row); reset has
none. -/
theorem test_empty_program_final :
    run 0 State.reset = some (.final (monitorRuns State.reset)) ∧ step State.reset = .refused (.programEnd 0) :=
  ⟨rfl, rfl⟩

/-- RDPMC placed by the host's numbering is the first instruction after reset. -/
theorem test_reset_runs_rdpmc : ∃ t, step (State.reset.withFetchWord 16 0x0F33) = .next t ∧ t.eip = 2 :=
  ⟨_, rfl, rfl⟩

/-- R50's rows for evt[k] and umsk[k] and for sel[k]: each family resets with selection registers of its own. By
30_encoding.md R91 the P6 pair (00H, 00H) is not listed, and by 40_events_pentium.md R110 code 000000 is. -/
theorem test_reset_of_both_families :
    (State.resetOf .p6).selections.perfEvtSel .one = some ⟨0, 0⟩ ∧ (State.resetOf .p6).selections.sel .one = none ∧
      (State.resetOf .p6).legal .zero = false ∧ (State.resetOf .pentium).selections.sel .one = some 0 ∧
      (State.resetOf .pentium).legal .zero = true := by decide +kernel

/-! ### Witnesses: states and operands that meet each statement's hypotheses, clause by clause -/

theorem test_witness_DecodeInvertsEncode :
    Instr.rdpmc.wellFormed = true ∧ decode [0x0F, 0x33, 0x90] = .ok (.rdpmc, [0x90]) := by decide

theorem test_witness_OtherBytesRefusedByName :
    (0xF3 : Byte) ∈ modifierBytes ∧ (0x0F : Byte) ∉ modifierBytes ∧
      ¬ ((0x0F : Byte) = 0x0F ∧ ((0x32 : Byte) = 0x33 ∨ (0x32 : Byte) = 0x31)) ∧ (0x90 : Byte) ∉ modifierBytes := by
  decide

/-- For RdpmcCompletesWithCounter, RdpmcResultIntegerLaw, RdpmcFrame, RegistersFullWidthInEveryMode and
ModeAndCodeSizeDoNotMatter: RDPMC completes on either counter, by either way through the check. -/
theorem test_witness_RdpmcCompletes :
    ((mk false 0 0 5 6).cr4Pce = true ∨ (mk false 0 0 5 6).cpl = 0) ∧ (mk false 0 0 5 6).ecx = 0 ∧
      Completes (exec .rdpmc (mk false 0 0 5 6)) ∧
      ((mk true 3 1 5 6).cr4Pce = true ∨ (mk true 3 1 5 6).cpl = 0) ∧ (mk true 3 1 5 6).ecx = 1 ∧
      Completes (exec .rdpmc (mk true 3 1 5 6)) :=
  ⟨by decide, rfl, ⟨_, rfl⟩, by decide, rfl, ⟨_, rfl⟩⟩

theorem test_witness_RegistersFullWidthInEveryMode :
    ((mk true 3 0x10000 5 6).ecx ≠ 0 ∧ (mk true 3 0x10000 5 6).ecx ≠ 1) ∧
      Completes (exec .rdpmc { mk true 3 1 5 6 with mode := .vm, codeSize := .bits16 }) :=
  ⟨by decide, ⟨_, rfl⟩⟩

theorem test_witness_ModeAndCodeSizeDoNotMatter :
    fetchDecode (mkProg true 3 0 [0x0F, 0x33]) = .ok .rdpmc ∧
      RaisesGeneralProtection (exec .rdpmc (mk false 1 0 5 6)) :=
  ⟨rfl, ⟨_, _, rfl⟩⟩

theorem test_witness_RdpmcPrivilegeCheckExact :
    [mk false 1 0 5 6, mk false 2 1 5 6, mk false 3 0 5 6].all
        (fun s => (s.ecx == 0 || s.ecx == 1) && !s.cr4Pce && (s.cpl == 1 || s.cpl == 2 || s.cpl == 3)) = true ∧
      [mk false 0 0 5 6, mk true 0 1 5 6].all (fun s => s.cpl == 0) = true ∧
      [mk true 1 0 5 6, mk true 3 1 5 6].all (fun s => s.cr4Pce) = true := by decide

theorem test_witness_RdpmcIndexCheckExact :
    [mk false 0 2 5 6, mk true 3 0xFFFFFFFF 5 6].all (fun s => s.ecx != 0 && s.ecx != 1) = true ∧
      [mk false 0 0 5 6, mk true 3 0 5 6].all (fun s => (s.cr4Pce || s.cpl == 0) && s.ecx == 0) = true ∧
      [mk false 0 1 5 6, mk true 3 1 5 6].all (fun s => (s.cr4Pce || s.cpl == 0) && s.ecx == 1) = true := by decide

theorem test_witness_PrivilegeInVmAndRealMode :
    [{ mk true 3 0 5 6 with mode := .vm }, { mk false 3 1 5 6 with mode := .vm }].all
        (fun s => modeFixesCpl s && s.mode == .vm && (s.ecx == 0 || s.ecx == 1)) = true ∧
      [{ mk false 0 0 5 6 with mode := .realAddress }, { mk true 0 2 5 6 with mode := .realAddress }].all
        (fun s => modeFixesCpl s && s.mode == .realAddress) = true := by decide

theorem test_witness_PermissionTable :
    (mk true 0 0 5 6).cr4Pce = true ∧ ((mk false 0 0 5 6).cr4Pce = false ∧ (mk false 0 0 5 6).cpl = 0) ∧
      ((mk false 1 0 5 6).cr4Pce = false ∧ (mk false 1 0 5 6).cpl ≠ 0) ∧
      ((mk false 3 0 5 6).cpl = 3 ∧ (mk false 3 0 5 6).cr4Tsd = false) ∧
      ((mk false 3 0 5 6).cpl = 3 ∧ { mk false 3 0 5 6 with cr4Tsd := true }.cr4Tsd = true) ∧
      (mk false 2 0 5 6).cpl ≠ 3 ∧ permission (mk false 2 0 5 6) .rdpmc = .generalProtection := by decide

theorem test_witness_StepRunsDecodedInstruction :
    Instr.rdpmc.wellFormed = true ∧
      decode (Memory.window (mkProg true 3 0 [0x0F, 0x33]).mem (mkProg true 3 0 [0x0F, 0x33]).eip 2)
        = .ok (.rdpmc, []) ∧
      (mkProg true 3 0 [0x0F, 0x33]).eip + 2 ≤ 2 ^ 32 := by decide

/-- Also at the top of the addresses, where the last two bytes are an instruction. -/
theorem test_witness_StepSamplesCounterBetweenDraws :
    let s := { mkProg true 3 1 [] with eip := 0xFFFFFFFE, mem := Memory.writeBytes [] 0xFFFFFFFE [0x0F, 0x33] }
    Memory.window s.mem s.eip 2 = [0x0F, 0x33] ∧ s.eip + 2 ≤ 2 ^ 32 ∧ (s.cr4Pce = true ∨ s.cpl = 0) ∧
      counterIndex s.ecx = some .one ∧ s.legal .one = true := by decide +kernel

theorem test_witness_StepRefusesWithoutBytes :
    (let s := mkProg true 3 0 []
     Memory.read s.mem s.eip = none ∧ s.eip = s.programEnd) ∧
    (let s := { mkProg true 3 0 [0x0F, 0x33] with eip := 0x1003 }
     Memory.read s.mem s.eip = none ∧ s.eip ≠ s.programEnd) := by decide

theorem test_witness_StepRefusesOtherBytes :
    (let s := mkProg true 3 0 [0x0F]
     Memory.read s.mem s.eip = some 0x0F ∧ s.eip + 2 ≤ 2 ^ 32 ∧ Memory.read s.mem (s.eip + 1) = none) ∧
    (let s := mkProg true 3 0 [0x0F, 0x31]
     Memory.read s.mem s.eip = some 0x0F ∧ s.eip + 2 ≤ 2 ^ 32 ∧ Memory.read s.mem (s.eip + 1) = some 0x31 ∧
       ¬ ((0x0F : Byte) = 0x0F ∧ (0x31 : Byte) = 0x33)) := by decide

theorem test_witness_StepRefusesWrappingBytes :
    let s := { mkProg true 3 1 [] with eip := 0xFFFFFFFF, mem := Memory.writeBytes [] 0xFFFFFFFF [0x0F, 0x33] }
    Memory.read s.mem s.eip = some 0x0F ∧ 2 ^ 32 < s.eip + 2 := by decide

/-- For StepChangesOnlyResultAndCounters and StepKeepsMachineInv: a state that meets the invariant and completes
a step. -/
theorem test_witness_StepKeepsMachineInv :
    (mkProg true 3 0 [0x0F, 0x33]).Inv ∧ ∃ t, step (mkProg true 3 0 [0x0F, 0x33]) = .next t :=
  ⟨by decide, _, rfl⟩

/-- For StepFaultKeepsAllButCounters, UserStepsKeepSelections and UnprivilegedNeverReadsCounter: a user step that
faults, with a legal selection; and a user step that completes. -/
theorem test_witness_UserSteps :
    (∃ code at_ kept, step (mkProg false 3 0 [0x0F, 0x33]) = .fault (.generalProtection code at_ kept)) ∧
      (mkProg false 3 0 [0x0F, 0x33]).legal .zero = true ∧ (mkProg false 3 0 [0x0F, 0x33]).cpl = 3 ∧
      (mkProg false 3 0 [0x0F, 0x33]).cr4Pce = false ∧
      (∃ t, step (mkProg true 3 0 [0x0F, 0x33]) = .next t) :=
  ⟨⟨_, _, _, rfl⟩, by decide +kernel, rfl, rfl, _, rfl⟩

theorem test_witness_UnprivilegedNeverReadsCounter :
    (mkProg false 1 0 [0x0F, 0x33]).cr4Pce = false ∧ (mkProg false 1 0 [0x0F, 0x33]).cpl ≠ 0 ∧
      ∃ code at_ kept, step { mkProg false 1 0 [0x0F, 0x33] with ctr0 := 5, ctr1 := 6 }
        = .fault (.generalProtection code at_ kept) :=
  ⟨rfl, by decide, _, _, _, rfl⟩

theorem test_witness_OtherCounterDoesNotInterfere :
    CounterId.one ≠ CounterId.zero ∧ counterIndex (mkProg true 3 0 [0x0F, 0x33]).ecx = some .zero ∧
      ∃ t, step (mkProg true 3 0 [0x0F, 0x33]) = .next t :=
  ⟨by decide, rfl, _, rfl⟩

theorem test_witness_LaunchMeetsMachineInv : launch1.wellFormed = true := by decide

/-- For MonitorStepAddsModulo, NoWrapNoDecrease and MonitorRunsOnlyCounts: a legal selection, without and with a
wrap, and another counter. -/
theorem test_witness_MonitorLegal :
    (mk true 3 0 0xFFFFFFFFFF 0).legal .zero = true ∧ (mk true 3 0 0xFFFFFFFFFF 0).legal .one = true ∧
      ((mk true 3 0 0xFFFFFFFFFE 0).ctr .zero).toNat + 1 < 2 ^ 40 ∧ CounterId.one ≠ CounterId.zero ∧
      (mkP6 0x2E 0x00).legal .one = true ∧ (mkP6 0x2E 0x00).countsNothing .one = true := by decide +kernel

theorem test_witness_ReservedSelectionUndefinedCount :
    (mkPentium 0b010000).legal .zero = false ∧ (mkPentium 0b110011).legal .zero = false ∧
      (mkP6 0x29 0x10).legal .one = false ∧ (mkPentium 0b010000).readable = true := by decide +kernel

theorem test_witness_L2MaskZeroNeverMoves :
    (mkP6 0x29 0x0F).selections.perfEvtSel .zero = some ⟨0x29, 0x0F⟩ ∧
      (mkP6 0x2E 0x00).selections.perfEvtSel .one = some ⟨0x2E, 0x00⟩ ∧
      (∃ t, step (mkP6 0x2E 0x00) = .next t) ∧
      (∃ code at_ kept, step { mkP6 0x2A 0x00 with ecx := 2 } = .fault (.generalProtection code at_ kept)) :=
  ⟨rfl, rfl, ⟨_, rfl⟩, _, _, _, rfl⟩

theorem test_witness_TwoReadsDifferByDraw :
    let s := mkProg true 3 0 [0x0F, 0x33, 0x0F, 0x33]
    counterIndex s.ecx = some .zero ∧ s.legal .zero = true ∧
      ∃ t u, step s = .next t ∧ step t = .next u :=
  ⟨rfl, by decide +kernel, _, _, rfl, rfl⟩

theorem test_witness_DifferenceOfReadsIsCount :
    let s := mk true 3 0 0xFFFFFFFFF0 0
    counterIndex s.ecx = some .zero ∧ s.legal .zero = true ∧ 0x1F < 2 ^ 40 ∧
      ∃ t, exec .rdpmc s = .next t ∧ ∃ u, exec .rdpmc (monitorStep .zero 0x1F 0 t) = .next u :=
  ⟨rfl, by decide +kernel, by decide, _, rfl, _, rfl⟩

theorem test_witness_PentiumSelection :
    (mkPentium 0b111011).selections.sel .one = some 0b111011 ∧ (mkPentium 0b111011).legal .one = true ∧
      (mkPentium 0b101110).selections.sel .zero = some 0b101110 ∧ (mkPentium 0b101110).legal .zero = false ∧
      (mkPentium 0b110001).legal .one = false ∧ (mkPentium 0b111111).legal .one = false := by decide +kernel

theorem test_witness_PentiumEventStaysOnItsCounter :
    ∃ r, r ∈ pentiumTable ∧ r.onCounter .one = false ∧ r.code = 0b110010 :=
  ⟨⟨50, 0b110010, true, false, "Floating Point Stalls", some .duration⟩, by decide +kernel, rfl, rfl⟩

theorem test_witness_P6Selection :
    (mkP6 0x66 0x20).selections.perfEvtSel .zero = some ⟨0x66, 0x20⟩ ∧ (mkP6 0x66 0x20).legal .zero = true ∧
      (mkP6 0x29 0x0F).legal .zero = true ∧ (mkP6 0x29 0x10).legal .zero = false ∧
      (mkP6 0x61 0x00).legal .one = true ∧ (mkP6 0x61 0x20).legal .one = false ∧
      (mkP6 0xC1 0x00).legal .zero = true ∧ (mkP6 0xC1 0x00).legal .one = false ∧
      (mkP6 0x13 0x00).legal .one = true ∧ (mkP6 0x13 0x00).legal .zero = false ∧
      (mkP6 0xC0 0x00).legal .one = true := by decide +kernel

theorem test_witness_P6CounterRestrictions :
    (∃ r, r ∈ p6Table ∧ r.evt = 0xC0) ∧
      (0xC0 : Byte) ∉ ([0xC1, 0x10, 0x14, 0x11, 0x12, 0x13] : List Byte) :=
  ⟨by decide +kernel, by decide⟩

theorem test_witness_UnlistedP6EncodingUndefined :
    (mkP6 0x29 0x10).selections.perfEvtSel .zero = some ⟨0x29, 0x10⟩ ∧
      (∀ r, r ∈ p6Table → r.evt = 0x29 → r.masks.admits 0x10 = false) ∧
      (∀ r, r ∈ p6Table → r.evt = 0xFF → r.masks.admits 0x00 = false) ∧
      counterIndex (mkP6 0x29 0x10).ecx = some .zero ∧ ∃ t, step (mkP6 0x29 0x10) = .next t :=
  ⟨rfl, by decide +kernel, by decide +kernel, rfl, _, rfl⟩

/-- R267, U6: one row alone is left between cycles and events. -/
theorem test_unsettled_clock :
    (p6Table.filter (fun r => r.clock 0x00 == some .unsettled)).map (fun r => r.mnemonic)
      = ["PARTIAL_RAT_STALLS"] := by decide +kernel

/-- Of program 5's last row: a state with nothing left to run, and one with a program. -/
theorem test_witness_RunOfNothingOnlyCounts :
    State.reset.isFinal = true ∧ (mkProg true 3 0 [0x0F, 0x33]).isFinal = false := by decide

theorem test_witness_EblClocksByRow :
    ([0x62, 0x63, 0x61, 0x7A, 0x7E] : List Byte).all (fun e => p6Table.any (fun r => r.evt == e)) = true := by
  decide +kernel

/-- A run of each kind: Final, Fault, Refused. -/
theorem test_witness_RunEndingIsStable :
    (∃ u, run 1 (mkProg true 3 0 [0x0F, 0x33]) = some (.final u)) ∧
      (∃ f, run 1 (mkProg false 3 0 [0x0F, 0x33]) = some (.faulted f)) ∧
      (∃ s r, run 1 (mkProg true 3 0 [0x0F]) = some (.refused s r)) :=
  ⟨⟨_, rfl⟩, ⟨_, rfl⟩, _, _, rfl⟩

end Sys2Proof.Tests
end

section
/-! # Lemmas for the statements of 10_state.md: the decoder, the fetch, and one whole step -/

namespace Sys2Proof.Machine

/-! ### The decoder and the fetch window -/

/-- 30_encoding.md R80, R82: a decoded instruction is `.rdpmc`, so only the first branch of the decoder answers one. -/
theorem decode_eq_ok_iff {bs : List Byte} {i : Instr} {rest : List Byte} :
    decode bs = .ok (i, rest) ↔ bs = encode i ++ rest := by
  cases i with
  | rdpmc =>
    constructor
    · intro h
      unfold decode at h
      split at h
      · next b0 b1 tail =>
        split at h
        · next hb =>
          obtain ⟨rfl, rfl⟩ := hb
          cases h
          rfl
        · split_ifs at h
      · cases h
    · rintro rfl
      simp [decode, encode]

theorem Memory.length_window_le (m : List Host.Cell) (a n : Nat) : (Memory.window m a n).length ≤ n := by
  induction n generalizing a with
  | zero => rfl
  | succ n ih =>
    unfold Memory.window
    split
    · exact Nat.zero_le _
    · exact Nat.succ_le_succ (ih (a + 1))

theorem Memory.window_succ_of_read {m : List Host.Cell} {a : Nat} {b : Byte} (h : Memory.read m a = some b)
    (n : Nat) : Memory.window m a (n + 1) = b :: Memory.window m (a + 1) n := by
  simp [Memory.window, h]

/-- A window of two bytes leaves nothing behind the instruction that it decodes to, so both bytes of RDPMC are
listed. -/
theorem fetchDecode_ok_reads {s : State} {i : Instr} (h : fetchDecode s = .ok i) :
    Memory.read s.mem s.eip = some rdpmcByte0 ∧ Memory.read s.mem (s.eip + 1) = some rdpmcByte1 := by
  obtain ⟨⟨rest, hdec⟩, -⟩ := fetchDecode_ok h
  have hwin : Memory.window s.mem s.eip 2 = encode i ++ rest := decode_eq_ok_iff.1 hdec
  cases i with
  | rdpmc =>
    have hlen := hwin ▸ Memory.length_window_le s.mem s.eip 2
    have hrest : rest = [] := List.length_eq_zero_iff.1 (by simpa [encode] using hlen)
    subst hrest
    exact Memory.window_two hwin

/-- 10_state.md R30: the address limit comes before the decoder, whatever the bytes. -/
theorem fetchDecode_of_wrap {s : State} {b : Byte} (hread : Memory.read s.mem s.eip = some b)
    (hwrap : Config.addressLimit < s.eip + Config.rdpmcLength) :
    fetchDecode s = .error (.addressWrap s.eip) := by
  have hwin : Memory.window s.mem s.eip Config.rdpmcLength = b :: Memory.window s.mem (s.eip + 1) 1 :=
    Memory.window_succ_of_read hread 1
  simp [fetchDecode, hwin, hwrap]

/-- The fetch looks at no counter and no draw. -/
@[simp] theorem fetchDecode_monitorRuns (s : State) : fetchDecode (monitorRuns s) = fetchDecode s := by
  simp [fetchDecode]

/-! ### RDPMC, one equation per way through its checks -/

@[simp] theorem exec_rdpmc (s : State) : exec .rdpmc s = execRdpmc s := rfl

theorem counterIndex_eq_none {e : Reg} : counterIndex e = none ↔ e ≠ 0 ∧ e ≠ 1 := by
  unfold counterIndex
  split_ifs <;> simp_all

theorem execRdpmc_of_index {s : State} {k : CounterId} (hp : rdpmcPermitted s = true)
    (hk : counterIndex s.ecx = some k) : execRdpmc s = .next (sampleCounter k s) := by
  simp [execRdpmc, hp, hk]

theorem execRdpmc_of_noIndex {s : State} (hk : counterIndex s.ecx = none) :
    execRdpmc s = raiseGeneralProtection s := by
  simp [execRdpmc, hk]

/-- The sample overwrites EAX and EDX whole (10_state.md R28). -/
theorem sampleCounter_setEaxEdx (k : CounterId) (s : State) (x y : Reg) :
    sampleCounter k { s with eax := x, edx := y } = sampleCounter k s := by
  cases k <;> rfl

/-! ### One whole step -/

@[simp] theorem sampleCounter_programEnd (k : CounterId) (s : State) :
    (sampleCounter k s).programEnd = s.programEnd := rfl

@[simp] theorem modeFixesCpl_sampleCounter (k : CounterId) (s : State) :
    modeFixesCpl (sampleCounter k s) = modeFixesCpl s := rfl

@[simp] theorem modeFixesCpl_monitorRuns (s : State) : modeFixesCpl (monitorRuns s) = modeFixesCpl s := by
  simp [modeFixesCpl]

@[simp] theorem rdpmcPermitted_monitorRuns (s : State) : rdpmcPermitted (monitorRuns s) = rdpmcPermitted s := by
  simp [rdpmcPermitted]

theorem step_of_fetchDecode_error {s : State} {r : Refusal} (h : fetchDecode s = .error r) :
    step s = .refused r := by
  simp [step, h]

/-- `step_next` for the one instruction there is, in terms of the state before the step. -/
theorem step_next_rdpmc {s t : State} (h : step s = .next t) :
    ∃ k, fetchDecode s = .ok .rdpmc ∧ rdpmcPermitted s = true ∧ counterIndex s.ecx = some k ∧
      t = monitorRuns (sampleCounter k (monitorRuns s)) := by
  obtain ⟨i, u, hfetch, hexec, rfl⟩ := step_next h
  cases i with
  | rdpmc =>
    obtain ⟨k, hp, hk, rfl⟩ := execRdpmc_next hexec
    exact ⟨k, by simpa using hfetch, by simpa using hp, by simpa using hk, rfl⟩

end Sys2Proof.Machine
end

section
/-! # The statements of 10_state.md -/

namespace Sys2Proof.Machine

/-- 10_state.md R30: the last byte of a fetched instruction is listed, so eip + 2 does not pass the program's end. -/
theorem State.Inv.afterFetch {s : State} {i : Instr} (hinv : s.Inv) (hfetch : fetchDecode s = .ok i) :
    s.eip + 2 ≤ s.programEnd ∧ s.eip + 2 ≤ Config.addressLimit := by
  obtain ⟨hwf, -⟩ := hinv
  obtain ⟨-, hsecond⟩ := fetchDecode_ok_reads hfetch
  obtain ⟨-, hlimit⟩ := fetchDecode_ok hfetch
  exact ⟨State.lt_programEnd hwf hsecond, hlimit⟩

/-- Settles O24: memory, base, mode and CPL stay as they are, and eip moves past two listed bytes. -/
theorem stepKeepsMachineInv : Obligations.StepKeepsMachineInv := by
  intro s t hinv hstep
  obtain ⟨k, hfetch, -, -, rfl⟩ := step_next_rdpmc hstep
  obtain ⟨hend, hlimit⟩ := hinv.afterFetch hfetch
  obtain ⟨hwf, hmode, hbase, -, -⟩ := hinv
  refine ⟨?_, ?_, ?_, ?_, ?_⟩
  · simpa using hwf
  · simpa using hmode
  · simpa using Nat.le_add_right_of_le hbase
  · simpa using hend
  · simpa using hlimit

/-- Settles O10: an ECX that names no counter faults, and a sample overwrites both result registers. -/
theorem registersFullWidthInEveryMode : Obligations.RegistersFullWidthInEveryMode := by
  intro s m c
  constructor
  · intro hecx
    exact ⟨_, _, execRdpmc_of_noIndex (counterIndex_eq_none.2 hecx)⟩
  · intro t h x y
    obtain ⟨k, hp, hk, rfl⟩ := execRdpmc_next h
    rw [← sampleCounter_setEaxEdx k _ x y]
    exact execRdpmc_of_index hp hk

/-- Settles O18: the fetch refuses at the address limit before it decodes. -/
theorem stepRefusesWrappingBytes : Obligations.StepRefusesWrappingBytes := by
  intro s b hread hwrap
  exact step_of_fetchDecode_error (fetchDecode_of_wrap hread hwrap)

theorem State.resetOf_inv (f : Family) : (State.resetOf f).Inv := by
  refine ⟨Memory.resetOf_wf f, ?_, ?_, ?_, ?_⟩
  · rfl
  · exact Nat.le_refl 0
  · exact Nat.le_refl 0
  · exact Nat.zero_le _

/-- Settles O25: State.reset is the Pentium family's case of `State.resetOf_inv`. -/
theorem resetMeetsMachineInv : Obligations.ResetMeetsMachineInv :=
  ⟨State.resetOf_inv .pentium, State.resetOf_inv⟩

theorem State.family_resetOf (f : Family) : (State.resetOf f).family = f := by
  cases f <;> rfl

theorem Selections.sel_reset_pentium (k : CounterId) : (Selections.reset .pentium).sel k = some 0 := by
  cases k <;> rfl

theorem Selections.perfEvtSel_reset_p6 (k : CounterId) :
    (Selections.reset .p6).perfEvtSel k = some { evt := 0, umsk := 0 } := by
  cases k <;> rfl

/-- Settles O43: the registers' rows of R50 are `State.resetOf`'s own fields; the family, the selections and the
memory are derived from them. -/
theorem resetValues : Obligations.ResetValues := by
  refine ⟨fun f => ?_, Selections.sel_reset_pentium, Selections.perfEvtSel_reset_p6, rfl⟩
  exact ⟨rfl, rfl, rfl, rfl, rfl, rfl, rfl, rfl, rfl, rfl, rfl, State.family_resetOf f, fun _ => rfl⟩

end Sys2Proof.Machine
end

section
/-! # The statement of 20_memory.md -/

namespace Sys2Proof.Machine

theorem Memory.window_succ_of_unlisted {m : List Host.Cell} {a : Nat} (h : Memory.read m a = none) (n : Nat) :
    Memory.window m a (n + 1) = [] := by
  simp [Memory.window, h]

/-- 20_memory.md R61: where no byte stands, the fetch answers before the address limit and the decoder. -/
theorem fetchDecode_of_unlisted {s : State} (hread : Memory.read s.mem s.eip = none) :
    fetchDecode s = .error (if s.eip = s.programEnd then .programEnd s.eip else .outsideProgram s.eip) := by
  have hwin : Memory.window s.mem s.eip Config.rdpmcLength = [] := Memory.window_succ_of_unlisted hread 1
  simp [fetchDecode, hwin]

/-- Settles O16: the fetch's own refusal, whichever of the two it is, is the step's. -/
theorem stepRefusesWithoutBytes : Obligations.StepRefusesWithoutBytes := by
  intro s hread
  have hstep := step_of_fetchDecode_error (fetchDecode_of_unlisted hread)
  constructor
  · intro hend
    rwa [if_pos hend] at hstep
  · intro hout
    rwa [if_neg hout] at hstep

end Sys2Proof.Machine
end

section
/-! # The statements of 30_encoding.md -/

namespace Sys2Proof.Machine

/-! ### The decoder -/

/-- Settles O1: both directions are the decoder's characterisation, which needs no well-formedness because every
instruction is well-formed. -/
theorem decodeInvertsEncode : Obligations.DecodeInvertsEncode :=
  ⟨fun _ _ _ _ => decode_eq_ok_iff, rfl⟩

/-- Settles O2: each side is the encoding of RDPMC followed by nothing or by one byte; the reversed table word
gives the bytes 33 0F, which are refused. -/
theorem rdpmcBytesDecode : Obligations.RdpmcBytesDecode := by
  refine ⟨?_, ?_, ?_, ?_⟩
  · exact decode_eq_ok_iff.2 rfl
  · exact decode_eq_ok_iff.2 rfl
  · decide
  · decide

/-- 30_encoding.md R85: RDPMC's first byte is none of the modifier bytes, so the decoder's branches exclude each
other. -/
theorem rdpmcByte0_not_mem_modifierBytes : rdpmcByte0 ∉ modifierBytes := by decide

theorem decode_of_modifier {b : Byte} (hb : b ∈ modifierBytes) (c : Byte) (rest : List Byte) :
    decode (b :: c :: rest) = .error (.prefixedForm b) := by
  have hne : b ≠ rdpmcByte0 := fun h => rdpmcByte0_not_mem_modifierBytes (h ▸ hb)
  simp [decode, hne, hb]

theorem decode_of_notInSpec {b c : Byte} (hb : b ∉ modifierBytes)
    (hpair : ¬ (b = rdpmcByte0 ∧ (c = rdpmcByte1 ∨ c = rdtscByte1))) (rest : List Byte) :
    decode (b :: c :: rest) = .error (.notInSpec b c) := by
  have hrdpmc : ¬ (b = rdpmcByte0 ∧ c = rdpmcByte1) := fun h => hpair ⟨h.1, .inl h.2⟩
  have hrdtsc : ¬ (b = rdpmcByte0 ∧ c = rdtscByte1) := fun h => hpair ⟨h.1, .inr h.2⟩
  rw [decode, if_neg hrdpmc, if_neg hrdtsc, if_neg hb]

/-- Settles O3: one clause for each branch of the decoder that refuses. -/
theorem otherBytesRefusedByName : Obligations.OtherBytesRefusedByName := by
  refine ⟨fun _ => rfl, rfl, fun _ => rfl, ?_, ?_⟩
  · intro b c rest hb
    exact decode_of_modifier hb c rest
  · intro b c rest hb hpair
    exact decode_of_notInSpec hb hpair rest

/-! ### The fetch of bytes that do not decode -/

/-- 30_encoding.md R82: whatever a pair other than 0F 33 is refused as, it is refused. -/
theorem decode_pair_error {b c : Byte} (h : ¬ (b = 0x0F ∧ c = 0x33)) : ∃ e, decode [b, c] = .error e := by
  cases hdec : decode [b, c] with
  | error e => exact ⟨e, rfl⟩
  | ok r =>
    obtain ⟨i, rest⟩ := r
    have hbytes : [b, c] = encode i ++ rest := decode_eq_ok_iff.1 hdec
    cases i with
    | rdpmc =>
      injection hbytes with hb htail
      injection htail with hc
      exact absurd ⟨hb, hc⟩ h

/-- 30_encoding.md R82, 70_reset_and_hazards.md R377 (c): where a byte stands at eip and the address limit is kept,
the decoder's reason is the fetch's. -/
theorem fetchDecode_of_decode_error {s : State} {b : Byte} {e : DecodeError}
    (hread : Memory.read s.mem s.eip = some b) (hlimit : s.eip + Config.rdpmcLength ≤ Config.addressLimit)
    (hdec : decode (b :: Memory.window s.mem (s.eip + 1) 1) = .error e) :
    fetchDecode s = .error (.undecoded s.eip e) := by
  have hwin : Memory.window s.mem s.eip Config.rdpmcLength = b :: Memory.window s.mem (s.eip + 1) 1 :=
    Memory.window_succ_of_read hread 1
  simp [fetchDecode, hwin, Nat.not_lt.2 hlimit, hdec]

/-- Settles O17: the window at eip holds one byte or two, and neither decodes. -/
theorem stepRefusesOtherBytes : Obligations.StepRefusesOtherBytes := by
  intro s b hread hlimit
  constructor
  · intro hnone
    apply step_of_fetchDecode_error
    apply fetchDecode_of_decode_error hread hlimit
    rw [Memory.window_succ_of_unlisted hnone]
    rfl
  · intro c hsecond hpair
    obtain ⟨e, hdec⟩ := decode_pair_error hpair
    refine ⟨e, hdec, ?_⟩
    apply step_of_fetchDecode_error
    apply fetchDecode_of_decode_error hread hlimit
    rw [Memory.window_succ_of_read hsecond]
    exact hdec

/-! ### Mode and code size -/

/-- The fetch looks at no mode and no code size. -/
theorem fetchDecode_setMode (s : State) (m : Mode) (c : CodeSize) :
    fetchDecode { s with mode := m, codeSize := c } = fetchDecode s := rfl

theorem sampleCounter_setMode (k : CounterId) (s : State) (m : Mode) (c : CodeSize) :
    sampleCounter k { s with mode := m, codeSize := c }
      = { sampleCounter k s with mode := m, codeSize := c } := by
  cases k <;> rfl

theorem execRdpmc_of_notPermitted {s : State} (hp : rdpmcPermitted s = false) :
    execRdpmc s = raiseGeneralProtection s := by
  simp [execRdpmc, hp]

/-- 42_rdpmc.md R302, R303: RDPMC raises #GP(0) exactly when one of its two checks fails. -/
theorem execRdpmc_raises_iff {s : State} :
    RaisesGeneralProtection (execRdpmc s) ↔ rdpmcPermitted s = false ∨ counterIndex s.ecx = none := by
  constructor
  · rintro ⟨_, _, hfault⟩
    exact (execRdpmc_fault hfault).2
  · rintro (hp | hk)
    · exact ⟨_, _, execRdpmc_of_notPermitted hp⟩
    · exact ⟨_, _, execRdpmc_of_noIndex hk⟩

/-- Settles O11: both checks read CR4.PCE, CPL and ECX alone, and the sample keeps mode and code size. -/
theorem modeAndCodeSizeDoNotMatter : Obligations.ModeAndCodeSizeDoNotMatter := by
  intro s m c
  refine ⟨?_, ?_, ?_⟩
  · intro i hfetch
    rwa [fetchDecode_setMode]
  · intro t hexec
    obtain ⟨k, hp, hk, rfl⟩ := execRdpmc_next hexec
    rw [← sampleCounter_setMode]
    exact execRdpmc_of_index hp hk
  · intro hraises
    have hcheck : rdpmcPermitted s = false ∨ counterIndex s.ecx = none := execRdpmc_raises_iff.1 hraises
    exact execRdpmc_raises_iff.2 hcheck

/-! ### A P6 encoding that Table 6-2 does not list -/

/-- 10_state.md R39: where a counter has an event number and a unit mask, they alone select its event. -/
theorem Selections.event_of_perfEvtSel {x : Selections} {k : CounterId} {p : PerfEvtSel}
    (h : x.perfEvtSel k = some p) :
    x.event k = (p6Selected p k).map (fun r => .p6 r (r.qualifier p.umsk)) := by
  cases x with
  | pentium c0 c1 => cases h
  | p6 p0 p1 => simp [Selections.event, Selections.sel, h]

/-- 41_events_p6.md R203: a pair of event number and unit mask that no row admits selects nothing. -/
theorem p6Selected_of_unlisted {e u : Byte} (k : CounterId)
    (h : ∀ r, r ∈ p6Table → r.evt = e → r.masks.admits u = false) : p6Selected ⟨e, u⟩ k = none := by
  unfold p6Selected
  rw [List.find?_eq_none]
  intro r hr hmatch
  simp only [Bool.and_eq_true, beq_iff_eq] at hmatch
  obtain ⟨⟨hevt, hmask⟩, -⟩ := hmatch
  exact absurd hmask (by simp [h r hr hevt])

theorem State.legal_of_unlisted {s : State} {k : CounterId} {e u : Byte}
    (hsel : s.selections.perfEvtSel k = some ⟨e, u⟩)
    (h : ∀ r, r ∈ p6Table → r.evt = e → r.masks.admits u = false) : s.legal k = false := by
  simp [State.legal, Selections.event_of_perfEvtSel hsel, p6Selected_of_unlisted k h]

/-- 60_exceptions.md R337: under a selection that is not legal the monitor leaves the drawn value. -/
theorem monitorStep_ctr_reserved {s : State} {k : CounterId} (h : s.legal k = false) (n : Nat) (d : Counter) :
    (monitorStep k n d s).ctr k = d := by
  simp [monitorStep_eq, h]

theorem monitorRuns_ctr_reserved {s : State} {k : CounterId} (h : s.legal k = false) :
    (monitorRuns s).ctr k = Config.drawnCount (s.draws + drawOffset k) := by
  rw [monitorRuns_ctr, drawnValue_reserved _ h]

/-- 42_rdpmc.md R301: the low 40 bits of EDX:EAX are the counter. -/
@[simp] theorem extractLsb'_placeCounter (v : Counter) : (placeCounter v).extractLsb' 0 40 = v := by
  apply BitVec.eq_of_getLsbD_eq
  intro i hi
  have hi64 : i < 64 := by omega
  simp [placeCounter, hi, hi64]

/-- 42_rdpmc.md R300, R309: the pair after a step that completes is the counter that ECX names, after the
monitor's first run. -/
theorem pair_of_step_next {s t : State} {k : CounterId} (hk : counterIndex s.ecx = some k)
    (hstep : step s = .next t) : t.pair = placeCounter ((monitorRuns s).ctr k) := by
  obtain ⟨j, -, -, hj, rfl⟩ := step_next_rdpmc hstep
  obtain rfl : j = k := Option.some.inj (hj.symm.trans hk)
  simp

/-- Settles O41: an unlisted pair is no legal selection, so the monitor leaves a draw and the step reads it. -/
theorem unlistedP6EncodingUndefined : Obligations.UnlistedP6EncodingUndefined := by
  intro s k e u hsel hunlisted
  have hreserved : s.legal k = false := State.legal_of_unlisted hsel hunlisted
  constructor
  · exact monitorStep_ctr_reserved hreserved
  · intro t hk hstep
    refine ⟨s.draws + drawOffset k, ?_⟩
    rw [pair_of_step_next hk hstep, extractLsb'_placeCounter, monitorRuns_ctr_reserved hreserved]

end Sys2Proof.Machine
end

section
/-! # The statements of 40_events_pentium.md -/

namespace Sys2Proof.Machine

/-! ### What a code selects -/

/-- 10_state.md R38: where a counter has a code, the code alone selects its event. -/
theorem Selections.event_of_sel {x : Selections} {k : CounterId} {c : PentiumCode} (h : x.sel k = some c) :
    x.event k = (pentiumSelected c k).map .pentium := by
  simp [Selections.event, h]

theorem State.legal_of_sel {s : State} {k : CounterId} {c : PentiumCode} (h : s.selections.sel k = some c) :
    s.legal k = (pentiumSelected c k).isSome := by
  simp [State.legal, Selections.event_of_sel h]

/-- 40_events_pentium.md R101: no code stands in two rows with "Yes" for one counter, "Reserved" rows included. -/
theorem nodup_codes_onCounter (k : CounterId) :
    ((pentiumTable.filter (·.onCounter k)).map PentiumRow.code).Nodup := by
  cases k <;> decide +kernel

theorem pentiumRow_eq_of_code {k : CounterId} {r r' : PentiumRow} (hr : r ∈ pentiumTable) (hr' : r' ∈ pentiumTable)
    (hcode : r.code = r'.code) (hk : r.onCounter k = true) (hk' : r'.onCounter k = true) : r = r' :=
  List.inj_on_of_nodup_map (nodup_codes_onCounter k) (List.mem_filter.2 ⟨hr, hk⟩) (List.mem_filter.2 ⟨hr', hk'⟩) hcode

theorem row_of_pentiumSelected {c : PentiumCode} {k : CounterId} {r : PentiumRow} (h : pentiumSelected c k = some r) :
    r ∈ pentiumTable ∧ r.code = c ∧ r.onCounter k = true ∧ r.reserved = false := by
  have hfits := List.find?_some h
  simp only [Bool.and_eq_true, beq_iff_eq, Bool.not_eq_true'] at hfits
  obtain ⟨⟨hcode, hk⟩, hres⟩ := hfits
  exact ⟨List.mem_of_find?_eq_some h, hcode, hk, hres⟩

/-- 40_events_pentium.md R101, R104: the first row that fits is the only one, so the table's order does not matter. -/
theorem pentiumSelected_eq_some_iff {c : PentiumCode} {k : CounterId} {r : PentiumRow} :
    pentiumSelected c k = some r ↔
      r ∈ pentiumTable ∧ r.code = c ∧ r.onCounter k = true ∧ r.reserved = false := by
  refine ⟨row_of_pentiumSelected, ?_⟩
  rintro ⟨hr, rfl, hk, hres⟩
  cases hsel : pentiumSelected r.code k with
  | none =>
    have hnone := List.find?_eq_none.1 hsel r hr
    simp [hk, hres] at hnone
  | some r' =>
    obtain ⟨hr', hcode, hk', -⟩ := row_of_pentiumSelected hsel
    rw [pentiumRow_eq_of_code hr' hr hcode hk' hk]

/-- Settles O34: the code's row is the one that `pentiumSelected` finds, and its uniqueness is the table's own. -/
theorem pentiumSelectionByTable : Obligations.PentiumSelectionByTable := by
  refine ⟨?_, fun k r r' => pentiumRow_eq_of_code, by decide, by decide⟩
  intro s c k x hsel
  rw [Selections.event_of_sel hsel, Option.map_eq_some_iff]
  constructor
  · rintro ⟨r, hr, rfl⟩
    exact ⟨r, rfl, pentiumSelected_eq_some_iff.1 hr⟩
  · rintro ⟨r, rfl, hr⟩
    exact ⟨r, pentiumSelected_eq_some_iff.2 hr, rfl⟩

/-! ### The pairs that select nothing -/

/-- 40_events_pentium.md R104: the rule's own table, checked for each counter over the 64 codes. -/
theorem pentiumSelected_eq_none_iff (c : PentiumCode) (k : CounterId) :
    pentiumSelected c k = none ↔
      c ∈ [16, 17, 32, 33, 28, 42, 44, 60, 61, 62, 63] ∨ (k = .zero ∧ c ∈ [46, 51]) ∨ (k = .one ∧ c ∈ [48, 49]) := by
  cases k with
  | zero => revert c; decide +kernel
  | one => revert c; decide +kernel

/-- Settles O35: a pair is not legal when it selects no row, and R104 lists the pairs that select none. -/
theorem pentiumPairsWithoutEvent : Obligations.PentiumPairsWithoutEvent := by
  intro s c k hsel
  rw [State.legal_of_sel hsel, Option.isSome_eq_false_iff, Option.isNone_iff_eq_none]
  exact pentiumSelected_eq_none_iff c k

end Sys2Proof.Machine
end

section
/-! # The statements of 41_events_p6.md -/

namespace Sys2Proof.Machine

/-! ### What an event number and a unit mask select -/

/-- 41_events_p6.md R201: 60 rows, 60 different event numbers. -/
theorem nodup_evts_p6Table : (p6Table.map P6Row.evt).Nodup := by
  decide +kernel

theorem p6Row_eq_of_evt {r r' : P6Row} (hr : r ∈ p6Table) (hr' : r' ∈ p6Table) (hevt : r.evt = r'.evt) : r = r' :=
  List.inj_on_of_nodup_map nodup_evts_p6Table hr hr' hevt

theorem row_of_p6Selected {p : PerfEvtSel} {k : CounterId} {r : P6Row} (h : p6Selected p k = some r) :
    r ∈ p6Table ∧ r.evt = p.evt ∧ r.masks.admits p.umsk = true ∧ r.counters.admits k = true := by
  have hfits := List.find?_some h
  simp only [Bool.and_eq_true, beq_iff_eq] at hfits
  obtain ⟨⟨hevt, hmask⟩, hk⟩ := hfits
  exact ⟨List.mem_of_find?_eq_some h, hevt, hmask, hk⟩

/-- 41_events_p6.md R201, R203: a row that fits is the one found, since no other row has its event number. -/
theorem p6Selected_eq_some_iff {p : PerfEvtSel} {k : CounterId} {r : P6Row} :
    p6Selected p k = some r ↔
      r ∈ p6Table ∧ r.evt = p.evt ∧ r.masks.admits p.umsk = true ∧ r.counters.admits k = true := by
  refine ⟨row_of_p6Selected, ?_⟩
  rintro ⟨hr, hevt, hmask, hk⟩
  cases hsel : p6Selected p k with
  | none =>
    have hnone := List.find?_eq_none.1 hsel r hr
    simp [hevt, hmask, hk] at hnone
  | some r' =>
    obtain ⟨hr', hevt', -, -⟩ := row_of_p6Selected hsel
    rw [p6Row_eq_of_evt hr' hr (hevt'.trans hevt.symm)]

/-- Settles O37: the row that `p6Selected` finds, qualified by the mask, is the event; uniqueness is the table's own. -/
theorem p6SelectionByTable : Obligations.P6SelectionByTable := by
  refine ⟨?_, fun _ _ => p6Row_eq_of_evt⟩
  intro s p k x hsel
  rw [Selections.event_of_perfEvtSel hsel, Option.map_eq_some_iff]
  constructor
  · rintro ⟨r, hr, rfl⟩
    exact ⟨r, rfl, p6Selected_eq_some_iff.1 hr⟩
  · rintro ⟨r, rfl, hr⟩
    exact ⟨r, p6Selected_eq_some_iff.2 hr, rfl⟩

/-! ### A selection with the event number of a known row -/

section
variable {s : State} {k : CounterId} {r : P6Row} {u : Byte}

theorem Selections.event_of_p6Row (hr : r ∈ p6Table) (hsel : s.selections.perfEvtSel k = some ⟨r.evt, u⟩)
    (hmask : r.masks.admits u = true) (hk : r.counters.admits k = true) :
    s.selections.event k = some (.p6 r (r.qualifier u)) := by
  have hfound : p6Selected ⟨r.evt, u⟩ k = some r := p6Selected_eq_some_iff.2 ⟨hr, rfl, hmask, hk⟩
  rw [Selections.event_of_perfEvtSel hsel, hfound, Option.map_some]

/-- 41_events_p6.md R201, R203: such a selection is legal exactly when its row admits the mask and the counter. -/
theorem State.legal_iff_of_p6Row (hr : r ∈ p6Table) (hsel : s.selections.perfEvtSel k = some ⟨r.evt, u⟩) :
    s.legal k = true ↔ r.masks.admits u = true ∧ r.counters.admits k = true := by
  constructor
  · intro hlegal
    rw [State.legal, Selections.event_of_perfEvtSel hsel, Option.isSome_map, Option.isSome_iff_exists] at hlegal
    obtain ⟨r', hfound⟩ := hlegal
    obtain ⟨hr', hevt, hmask, hk⟩ := row_of_p6Selected hfound
    obtain rfl : r' = r := p6Row_eq_of_evt hr' hr hevt
    exact ⟨hmask, hk⟩
  · rintro ⟨hmask, hk⟩
    rw [State.legal, Selections.event_of_p6Row hr hsel hmask hk, Option.isSome_some]

end

@[simp] theorem CounterRule.admits_either (k : CounterId) : CounterRule.either.admits k = true := rfl

@[simp] theorem CounterRule.admits_only {j k : CounterId} : (CounterRule.only j).admits k = true ↔ k = j :=
  beq_iff_eq.trans eq_comm

@[simp] theorem MaskRule.admits_mesi {u : Byte} : MaskRule.mesi.admits u = true ↔ u.toNat ≤ 0x0F := by
  simp [MaskRule.admits]

@[simp] theorem MaskRule.admits_selfAny {u : Byte} : MaskRule.selfAny.admits u = true ↔ u = 0x00 ∨ u = 0x20 := by
  simp [MaskRule.admits]

@[simp] theorem MaskRule.admits_selfOnly {u : Byte} : MaskRule.selfOnly.admits u = true ↔ u = 0x00 := by
  simp [MaskRule.admits]

/-- 41_events_p6.md R204, R205: unit mask 00H stands under every rule of the column "Unit Mask". -/
@[simp] theorem MaskRule.admits_zero (m : MaskRule) : m.admits 0#8 = true := by
  cases m <;> rfl

/-! ### The MESI unit mask -/

/-- 41_events_p6.md R204: the rows "where noted" are 29H, 2AH and 2EH, and R206 ties none of them to a counter. -/
theorem mesiRow_of_evt : ∀ e ∈ ([0x29, 0x2A, 0x2E] : List Byte),
    ∃ r ∈ p6Table, r.evt = e ∧ r.masks = .mesi ∧ r.counters = .either := by
  decide +kernel

theorem mem_countedStates {c : CacheState} {u : Byte} : c ∈ countedStates u ↔ u.getLsbD c.maskBit = true := by
  cases c <;> simp [countedStates]

theorem countedStates_zero : countedStates 0#8 = [] := rfl

theorem P6Row.qualifier_mesi {r : P6Row} (h : r.masks = .mesi) (u : Byte) :
    r.qualifier u = .states (countedStates u) := by
  simp [P6Row.qualifier, h]

/-- Settles O38: the event's row has the mask rule MESI, and under 00H the list of counted states is empty. -/
theorem mesiMaskSelectsStates : Obligations.MesiMaskSelectsStates := by
  intro s k e u he hsel
  obtain ⟨r, hr, rfl, hmesi, heither⟩ := mesiRow_of_evt e (by simpa using he)
  have hlegal : s.legal k = true ↔ u.toNat ≤ 0x0F := by
    simp [State.legal_iff_of_p6Row hr hsel, hmesi, heither]
  have hevent (hu : u.toNat ≤ 0x0F) : s.selections.event k = some (.p6 r (.states (countedStates u))) := by
    rw [← P6Row.qualifier_mesi hmesi]
    exact Selections.event_of_p6Row hr hsel (by simpa [hmesi] using hu) (by simp [heither])
  refine ⟨hlegal, ?_, ?_⟩
  · intro h
    exact ⟨r, countedStates u, hevent (hlegal.1 h),
      mem_countedStates, mem_countedStates, mem_countedStates, mem_countedStates⟩
  · rintro rfl
    apply monitorRuns_ctr_still
    simp [State.countsNothing, hevent, SelectedEvent.countsNothing, countedStates_zero]

/-! ### The Self/Any unit mask -/

/-- 41_events_p6.md R205: the twelve EBL rows that admit Self and Any, and R206 ties none of them to a counter. -/
theorem selfAnyRow_of_evt :
    ∀ e ∈ ([0x62, 0x63, 0x66, 0x68, 0x69, 0x6A, 0x6B, 0x6C, 0x6D, 0x6E, 0x70, 0x6F] : List Byte),
      ∃ r ∈ p6Table, r.evt = e ∧ r.masks = .selfAny ∧ r.counters = .either := by
  decide +kernel

/-- 41_events_p6.md R205: the three EBL rows "where noted". -/
theorem selfOnlyRow_of_evt : ∀ e ∈ ([0x61, 0x7A, 0x7E] : List Byte),
    ∃ r ∈ p6Table, r.evt = e ∧ r.masks = .selfOnly ∧ r.counters = .either := by
  decide +kernel

theorem P6Row.qualifier_selfAny {r : P6Row} (h : r.masks = .selfAny) (u : Byte) :
    r.qualifier u = .agent (countedAgent u) := by
  simp [P6Row.qualifier, h]

theorem P6Row.qualifier_selfOnly {r : P6Row} (h : r.masks = .selfOnly) (u : Byte) :
    r.qualifier u = .agent .self := by
  simp [P6Row.qualifier, h]

theorem countedAgent_zero : countedAgent 0x00 = .self := rfl

theorem countedAgent_bit5 : countedAgent 0x20 = .any := rfl

/-- Settles O39: the twelve rows name the agent by bit 5 of the mask, and the three admit 00H alone. -/
theorem eblMaskSelectsAgent : Obligations.EblMaskSelectsAgent := by
  intro s k e u hsel
  constructor
  · intro he
    obtain ⟨r, hr, rfl, hany, heither⟩ := selfAnyRow_of_evt e he
    have hevent (hu : u = 0x00 ∨ u = 0x20) : s.selections.event k = some (.p6 r (.agent (countedAgent u))) := by
      rw [← P6Row.qualifier_selfAny hany]
      exact Selections.event_of_p6Row hr hsel (by simpa [hany] using hu) (by simp [heither])
    refine ⟨?_, ?_, ?_⟩
    · simp [State.legal_iff_of_p6Row hr hsel, hany, heither]
    · rintro rfl
      exact ⟨r, countedAgent_zero ▸ hevent (.inl rfl)⟩
    · rintro rfl
      exact ⟨r, countedAgent_bit5 ▸ hevent (.inr rfl)⟩
  · intro he
    obtain ⟨r, hr, rfl, hself, heither⟩ := selfOnlyRow_of_evt e he
    constructor
    · simp [State.legal_iff_of_p6Row hr hsel, hself, heither]
    · rintro rfl
      rw [← P6Row.qualifier_selfOnly hself 0x00]
      exact ⟨r, Selections.event_of_p6Row hr hsel (by simp) (by simp [heither])⟩

/-! ### The events tied to one counter -/

/-- 41_events_p6.md R206: "Counter 0 only". -/
theorem counterZeroRow_of_evt : ∀ e ∈ ([0xC1, 0x10, 0x14] : List Byte),
    ∃ r ∈ p6Table, r.evt = e ∧ r.counters = .only .zero := by
  decide +kernel

/-- 41_events_p6.md R206: "Counter 1 only". -/
theorem counterOneRow_of_evt : ∀ e ∈ ([0x11, 0x12, 0x13] : List Byte),
    ∃ r ∈ p6Table, r.evt = e ∧ r.counters = .only .one := by
  decide +kernel

/-- 41_events_p6.md R206: every other row carries no restriction. -/
theorem counters_eq_either_of_evt : ∀ r ∈ p6Table,
    r.evt ∉ ([0xC1, 0x10, 0x14, 0x11, 0x12, 0x13] : List Byte) → r.counters = .either := by
  decide +kernel

/-- Settles O40: every row admits mask 00H, so the column of counters alone decides. -/
theorem p6CounterRestrictions : Obligations.P6CounterRestrictions := by
  intro s k e hsel
  refine ⟨?_, ?_, ?_⟩
  · intro he
    obtain ⟨r, hr, rfl, honly⟩ := counterZeroRow_of_evt e he
    simp [State.legal_iff_of_p6Row hr hsel, honly]
  · intro he
    obtain ⟨r, hr, rfl, honly⟩ := counterOneRow_of_evt e he
    simp [State.legal_iff_of_p6Row hr hsel, honly]
  · rintro he ⟨r, hr, rfl⟩
    have heither : r.counters = .either := counters_eq_either_of_evt r hr he
    simp [State.legal_iff_of_p6Row hr hsel, heither]

end Sys2Proof.Machine
end

section
/-! # The statements of 42_rdpmc.md -/

namespace Sys2Proof.Machine

/-! ### The two checks -/

theorem rdpmcPermitted_iff {s : State} : rdpmcPermitted s = true ↔ s.cr4Pce = true ∨ s.cpl = 0 := by
  simp [rdpmcPermitted]

theorem rdpmcPermitted_eq_false_iff {s : State} :
    rdpmcPermitted s = false ↔ s.cr4Pce = false ∧ s.cpl ≠ 0 := by
  simp [rdpmcPermitted]

theorem exists_counterIndex_iff {e : Reg} : (∃ k, counterIndex e = some k) ↔ e = 0 ∨ e = 1 := by
  simp [counterIndex_eq_some, exists_or]

/-- 42_rdpmc.md R302, R303: RDPMC completes exactly when both of its checks pass. -/
theorem execRdpmc_completes_iff {s : State} :
    Completes (execRdpmc s) ↔ rdpmcPermitted s = true ∧ (s.ecx = 0 ∨ s.ecx = 1) := by
  rw [← exists_counterIndex_iff]
  constructor
  · rintro ⟨t, hnext⟩
    obtain ⟨k, hp, hk, -⟩ := execRdpmc_next hnext
    exact ⟨hp, k, hk⟩
  · rintro ⟨hp, k, hk⟩
    exact ⟨_, execRdpmc_of_index hp hk⟩

/-! ### The result in EDX and EAX -/

theorem extractLsb'_placeCounter_low (v : Counter) : (placeCounter v).extractLsb' 0 32 = v.extractLsb' 0 32 :=
  BitVec.extractLsb'_setWidth_of_le (by decide)

/-- 42_rdpmc.md R301: the counter's bits 39 to 32 are EDX's low 8, and zeros stand above them. -/
theorem extractLsb'_placeCounter_high (v : Counter) :
    (placeCounter v).extractLsb' 32 32 = (v.extractLsb' 32 8).zeroExtend 32 := by
  have hcut : (placeCounter v).extractLsb' 32 32 = v.extractLsb' 32 32 :=
    BitVec.extractLsb'_setWidth_of_le (by decide)
  rw [hcut]
  apply BitVec.eq_of_getLsbD_eq
  intro i hi
  by_cases hlow : i < 8
  · simp [hi, hlow]
  · have hzero : v.getLsbD (32 + i) = false := BitVec.getLsbD_of_ge v _ (by omega)
    simp [hlow, hzero]

@[simp] theorem toNat_placeCounter (v : Counter) : (placeCounter v).toNat = v.toNat := by
  have hlt : v.toNat < 2 ^ 64 := by omega
  simpa [placeCounter] using hlt

/-- 00_scope.md R9: EDX:EAX as an integer. -/
theorem State.toNat_pair (s : State) : s.pair.toNat = s.edx.toNat * 2 ^ 32 + s.eax.toNat := by
  rw [State.pair, BitVec.toNat_append, ← Nat.shiftLeft_add_eq_or_of_lt s.eax.isLt, Nat.shiftLeft_eq]

theorem toNat_sampleCounter_edx_lt (k : CounterId) (s : State) : (sampleCounter k s).edx.toNat < 2 ^ 8 := by
  have hbits : ((s.ctr k).extractLsb' 32 8).toNat < 2 ^ 8 := BitVec.isLt _
  rw [sampleCounter_edx, extractLsb'_placeCounter_high, BitVec.toNat_setWidth]
  exact (Nat.mod_le _ _).trans_lt hbits

/-- 42_rdpmc.md R300, R301: the whole state after the sample, by the counter's bits. -/
theorem sampleCounter_eq (k : CounterId) (s : State) :
    sampleCounter k s = { s with
      eax := (s.ctr k).extractLsb' 0 32
      edx := ((s.ctr k).extractLsb' 32 8).zeroExtend 32
      eip := s.eip + 2 } := by
  rw [← extractLsb'_placeCounter_low, ← extractLsb'_placeCounter_high]
  rfl

/-! ### RDPMC at its sample -/

/-- Settles O5: the pair is the counter placed in 64 bits, whose value placing keeps. -/
theorem rdpmcResultIntegerLaw : Obligations.RdpmcResultIntegerLaw := by
  intro s t hexec
  obtain ⟨k, -, hk, rfl⟩ := execRdpmc_next hexec
  refine ⟨k, hk, ?_, toNat_sampleCounter_edx_lt k s⟩
  rw [← State.toNat_pair, sampleCounter_pair, toNat_placeCounter]

/-- Settles O4: ECX names the counter, and `sampleCounter_eq` is the state. -/
theorem rdpmcCompletesWithCounter : Obligations.RdpmcCompletesWithCounter := by
  intro s hpriv
  have hp : rdpmcPermitted s = true := rdpmcPermitted_iff.2 hpriv
  constructor
  · intro hecx
    rw [exec_rdpmc, execRdpmc_of_index hp (counterIndex_eq_some.2 (.inl ⟨hecx, rfl⟩)), sampleCounter_eq]
    rfl
  · intro hecx
    rw [exec_rdpmc, execRdpmc_of_index hp (counterIndex_eq_some.2 (.inr ⟨hecx, rfl⟩)), sampleCounter_eq]
    rfl

/-- Settles O6: the privilege check fails exactly at CR4.PCE = 0 outside CPL 0. -/
theorem rdpmcPrivilegeCheckExact : Obligations.RdpmcPrivilegeCheckExact := by
  intro s hecx
  refine ⟨?_, ?_, ?_⟩
  · rintro ⟨hpce, hcpl⟩
    have hne : s.cpl ≠ 0 := by
      rcases hcpl with h | h | h <;> simp [h]
    exact execRdpmc_raises_iff.2 (.inl (rdpmcPermitted_eq_false_iff.2 ⟨hpce, hne⟩))
  · intro hcpl
    exact execRdpmc_completes_iff.2 ⟨rdpmcPermitted_iff.2 (.inr hcpl), hecx⟩
  · intro hpce
    exact execRdpmc_completes_iff.2 ⟨rdpmcPermitted_iff.2 (.inl hpce), hecx⟩

/-- Settles O7: an ECX that names no counter faults at every level; the two clauses that complete are those of O4. -/
theorem rdpmcIndexCheckExact : Obligations.RdpmcIndexCheckExact := by
  intro s
  have hlow (v : Counter) : ((v.extractLsb' 32 8).zeroExtend 32).extractLsb' 0 8 = v.extractLsb' 32 8 :=
    (BitVec.extractLsb'_setWidth_of_le (by decide)).trans BitVec.extractLsb'_eq_self
  refine ⟨?_, ?_, ?_⟩
  · intro h0 h1
    exact execRdpmc_raises_iff.2 (.inr (counterIndex_eq_none.2 ⟨h0, h1⟩))
  · intro hpriv hecx
    exact ⟨_, (rdpmcCompletesWithCounter s hpriv).1 hecx, rfl, hlow s.ctr0⟩
  · intro hpriv hecx
    exact ⟨_, (rdpmcCompletesWithCounter s hpriv).2 hecx, rfl, hlow s.ctr1⟩

/-- Settles O8: a completing RDPMC is `sampleCounter`, which writes EAX, EDX and eip alone. -/
theorem rdpmcFrame : Obligations.RdpmcFrame := by
  intro s t hexec
  obtain ⟨k, -, -, rfl⟩ := execRdpmc_next hexec
  simp

/-- 10_state.md R36: where the mode fixes a level, the CPL is that level. -/
theorem cpl_of_modeFixesCpl {s : State} {c : Fin 4} (hfix : modeFixesCpl s = true)
    (hmode : modeCpl s.mode = some c) : s.cpl = c := by
  simpa [modeFixesCpl, hmode] using hfix

/-- Settles O12: VM mode runs at CPL 3, so CR4.PCE decides; real-address mode runs at CPL 0, so ECX decides. -/
theorem privilegeInVmAndRealMode : Obligations.PrivilegeInVmAndRealMode := by
  intro s hfix
  constructor
  · intro hmode hecx
    have hcpl : s.cpl = 3 := cpl_of_modeFixesCpl hfix (by rw [hmode]; rfl)
    rw [exec_rdpmc, execRdpmc_completes_iff, rdpmcPermitted_iff]
    simp only [hecx, and_true]
    simp [hcpl]
  · intro hmode
    have hcpl : s.cpl = 0 := cpl_of_modeFixesCpl hfix (by rw [hmode]; rfl)
    rw [exec_rdpmc, execRdpmc_completes_iff, rdpmcPermitted_iff]
    simp [hcpl]

/-! ### One step that reads -/

theorem fetchDecode_of_decode_ok {s : State} {i : Instr} {rest : List Byte}
    (hdec : decode (Memory.window s.mem s.eip Config.rdpmcLength) = .ok (i, rest))
    (hlimit : s.eip + Config.rdpmcLength ≤ Config.addressLimit) : fetchDecode s = .ok i := by
  unfold fetchDecode
  split
  · next hwin => rw [hwin] at hdec; cases hdec
  · rw [if_neg (Nat.not_lt.2 hlimit), hdec]

theorem step_of_fetchDecode_ok {s : State} {i : Instr} (h : fetchDecode s = .ok i) :
    step s = monitorAfter (exec i (monitorRuns s)) := by
  simp [step, h]

/-- 42_rdpmc.md R300, R309: where RDPMC is fetched and both checks pass, the step is the monitor, the sample and the
monitor again. -/
theorem step_of_rdpmc {s : State} {k : CounterId} (hfetch : fetchDecode s = .ok .rdpmc)
    (hp : rdpmcPermitted s = true) (hk : counterIndex s.ecx = some k) :
    step s = .next (monitorRuns (sampleCounter k (monitorRuns s))) := by
  have hexec : execRdpmc (monitorRuns s) = .next (sampleCounter k (monitorRuns s)) :=
    execRdpmc_of_index (by simpa using hp) (by simpa using hk)
  rw [step_of_fetchDecode_ok hfetch, exec_rdpmc, hexec, monitorAfter]

/-- `step_fault` for the one instruction there is, in terms of the state before the step. -/
theorem step_fault_rdpmc {s : State} {f : Fault} (h : step s = .fault f) :
    f = .generalProtection 0 s.eip (monitorRuns s) := by
  obtain ⟨i, -, hexec⟩ := step_fault h
  cases i with
  | rdpmc => simpa using (execRdpmc_fault hexec).1

/-- 42_rdpmc.md R309, 60_exceptions.md R336: a counter after a step that completes has gained both of its draws. -/
theorem toNat_ctr_of_step_next {s t : State} {k : CounterId} (hlegal : s.legal k = true) (hstep : step s = .next t) :
    (t.ctr k).toNat = ((s.ctr k).toNat + s.increment k (s.draws + drawOffset k)
      + s.increment k (s.draws + 2 + drawOffset k)) % 2 ^ 40 := by
  obtain ⟨j, -, -, -, rfl⟩ := step_next_rdpmc hstep
  rw [monitorRuns_ctr_toNat (by simpa using hlegal), sampleCounter_ctr, monitorRuns_ctr_toNat hlegal]
  simp

/-- Settles O15: the step is `step_of_rdpmc`; the clauses read off its pair and its counters. -/
theorem stepSamplesCounterBetweenDraws : Obligations.StepSamplesCounterBetweenDraws := by
  intro s k hwin hlimit hpriv hk
  have hfetch : fetchDecode s = .ok .rdpmc := fetchDecode_of_decode_ok (decode_eq_ok_iff.2 hwin) hlimit
  have hstep := step_of_rdpmc hfetch (rdpmcPermitted_iff.2 hpriv) hk
  have hpair := pair_of_step_next hk hstep
  refine ⟨_, hstep, rfl, by simp, hpair, ?_, ?_, ?_⟩
  · rw [monitorRuns_edx]
    exact Nat.le_of_lt_succ (toNat_sampleCounter_edx_lt k _)
  · intro hlegal
    rw [hpair, toNat_placeCounter, monitorRuns_ctr_toNat hlegal]
    exact ⟨rfl, toNat_ctr_of_step_next hlegal hstep⟩
  · intro hreserved
    rw [hpair, monitorRuns_ctr_reserved hreserved]

/-- Settles O21: a completing step and the state a fault keeps are made by the monitor and the sample, which keep the
selections. -/
theorem userStepsKeepSelections : Obligations.UserStepsKeepSelections := by
  intro s hcpl
  refine ⟨?_, ?_, ?_, ?_⟩
  · simp [permission, hcpl]
  · intro hpce
    simp [permission, rdpmcPermitted_iff, hpce]
  · intro t hstep
    obtain ⟨k, -, -, -, rfl⟩ := step_next_rdpmc hstep
    simp
  · intro code at_ kept hstep
    cases step_fault_rdpmc hstep
    simp

/-- Settles O22: no value of the counters makes the privilege check pass, and a fault keeps what the monitor left. -/
theorem unprivilegedNeverReadsCounter : Obligations.UnprivilegedNeverReadsCounter := by
  intro s v w hpce hcpl
  constructor
  · rintro ⟨t, hstep⟩
    obtain ⟨k, -, hp, -, -⟩ := step_next_rdpmc hstep
    have hnot : rdpmcPermitted { s with ctr0 := v, ctr1 := w } = false :=
      rdpmcPermitted_eq_false_iff.2 ⟨hpce, hcpl⟩
    simp [hnot] at hp
  · intro code at_ kept hstep
    cases step_fault_rdpmc hstep
    simp

/-! ### Independence of the other counter -/

@[simp] theorem fetchDecode_setCtr (s : State) (j : CounterId) (v : Counter) :
    fetchDecode (s.setCtr j v) = fetchDecode s := by
  cases j <;> rfl

@[simp] theorem rdpmcPermitted_setCtr (s : State) (j : CounterId) (v : Counter) :
    rdpmcPermitted (s.setCtr j v) = rdpmcPermitted s := by
  simp [rdpmcPermitted]

theorem drawnValue_setCtr_other (s : State) (i : Nat) (v : Counter) {j k : CounterId} (h : k ≠ j) :
    drawnValue k i (s.setCtr j v) = drawnValue k i s := by
  simp [drawnValue, State.ctr_setCtr_other s v h]

/-- 60_exceptions.md R335 (decision D30): what one counter held shows in that counter alone after the monitor ran. -/
theorem monitorRuns_setCtr (s : State) (j : CounterId) (v : Counter) :
    ∃ w, monitorRuns (s.setCtr j v) = (monitorRuns s).setCtr j w := by
  refine ⟨drawnValue j (s.draws + drawOffset j) (s.setCtr j v), ?_⟩
  rw [monitorRuns_eq, monitorRuns_eq s]
  cases j with
  | zero => rw [drawnValue_setCtr_other (k := .one) _ _ _ (by decide)]; rfl
  | one => rw [drawnValue_setCtr_other (k := .zero) _ _ _ (by decide)]; rfl

theorem sampleCounter_setCtr_other (s : State) (v : Counter) {j k : CounterId} (h : k ≠ j) :
    sampleCounter k (s.setCtr j v) = (sampleCounter k s).setCtr j v := by
  rw [sampleCounter_eq, sampleCounter_eq, State.ctr_setCtr_other s v h]
  cases j <;> rfl

/-- Settles O23: the other counter's value passes by the fetch, the checks and the sample, and through the monitor's
two runs into that counter alone. -/
theorem otherCounterDoesNotInterfere : Obligations.OtherCounterDoesNotInterfere := by
  intro s t k j v hjk hk hstep
  obtain ⟨k', hfetch, hp, hk', rfl⟩ := step_next_rdpmc hstep
  obtain rfl : k' = k := Option.some.inj (hk'.symm.trans hk)
  obtain ⟨w, hbefore⟩ := monitorRuns_setCtr s j v
  obtain ⟨w', hafter⟩ := monitorRuns_setCtr (sampleCounter k' (monitorRuns s)) j w
  refine ⟨w', ?_⟩
  rw [step_of_rdpmc (by simpa using hfetch) (by simpa using hp) (by simpa using hk), hbefore,
    sampleCounter_setCtr_other _ _ hjk.symm, hafter]

/-! ### Two reads in sequence -/

/-- Settles O32: the first pair is the counter at the first sample; the counter then gains the draw after that sample
and the draw before the second. -/
theorem twoReadsDifferByDraw : Obligations.TwoReadsDifferByDraw := by
  intro s t u k hk hlegal hfirst hsecond
  have hpair : t.pair = placeCounter ((monitorRuns s).ctr k) := pair_of_step_next hk hfirst
  have hctr := toNat_ctr_of_step_next hlegal hfirst
  obtain ⟨j, -, -, -, ht⟩ := step_next_rdpmc hfirst
  have hpair' : u.pair = placeCounter ((monitorRuns t).ctr k) := pair_of_step_next (by simpa [ht] using hk) hsecond
  refine ⟨hpair', ?_, ?_⟩
  · have hlegal' : t.legal k = true := by simpa [ht] using hlegal
    have hdraw : t.increment k (t.draws + drawOffset k) = s.increment k (s.draws + 4 + drawOffset k) := by
      simp [ht]
    rw [hpair, hpair', toNat_placeCounter, toNat_placeCounter, monitorRuns_ctr_toNat hlegal',
      monitorRuns_ctr_toNat hlegal, hctr, hdraw]
    simp only [Nat.mod_add_mod, Nat.add_assoc]
  · intro hnothing
    have hstill : (monitorRuns t).ctr k = t.ctr k := monitorRuns_ctr_still (by simpa [ht] using hnothing)
    have hkept : t.ctr k = (monitorRuns s).ctr k := by
      rw [ht, monitorRuns_ctr_still (by simpa using hnothing), sampleCounter_ctr]
    rw [hpair, hpair', hstill, hkept]

/-! ### After reset -/

/-- 30_encoding.md R80: the table's word places RDPMC's two bytes at address 0, where eip stands after reset. -/
theorem State.window_resetOf_rdpmc (f : Family) :
    Memory.window ((State.resetOf f).withFetchWord 16 0x0F33).mem 0 2 = [0x0F, 0x33] := rfl

/-- Settles O44: the placed bytes are 0F 33 at eip, and at reset CPL is 0 and ECX names counter 0. -/
theorem rdpmcRunsAfterReset : Obligations.RdpmcRunsAfterReset := by
  intro f
  have hlimit : 0 + 2 ≤ 2 ^ 32 := by decide
  obtain ⟨_, hstep, rfl, heip, -⟩ := stepSamplesCounterBetweenDraws ((State.resetOf f).withFetchWord 16 0x0F33) .zero
    (State.window_resetOf_rdpmc f) hlimit (.inr rfl) rfl
  refine ⟨_, hstep, heip, ?_⟩
  rw [monitorRuns_ecx, sampleCounter_ecx, monitorRuns_ecx]
  rfl

end Sys2Proof.Machine
end

section
/-! # The statements of 60_exceptions.md -/

namespace Sys2Proof.Machine

/-! ### The frame of a step -/

/-- 60_exceptions.md R335: of the state, the monitor writes the counters alone. -/
theorem sameButCounters_monitorRuns (s : State) : SameButCounters s (monitorRuns s) := by
  rw [monitorRuns_eq]

/-- 60_exceptions.md R345, R333: neither the monitor nor the sample writes a field of the configuration. -/
theorem sameConfiguration_sample_between_monitorRuns (k : CounterId) (s : State) :
    SameConfiguration s (monitorRuns (sampleCounter k (monitorRuns s))) := by
  rw [monitorRuns_eq (sampleCounter k _), sampleCounter_eq, monitorRuns_eq s]

/-- Settles O19: a completing step is the monitor, the sample and the monitor again, and the sample moves eip on. -/
theorem stepChangesOnlyResultAndCounters : Obligations.StepChangesOnlyResultAndCounters := by
  intro s t hstep
  obtain ⟨k, -, -, -, rfl⟩ := step_next_rdpmc hstep
  refine ⟨sameConfiguration_sample_between_monitorRuns k s, ?_, ?_⟩
  · simp
  · simp

/-- Settles O20: the state that a fault keeps is the one that the monitor left. -/
theorem stepFaultKeepsAllButCounters : Obligations.StepFaultKeepsAllButCounters := by
  intro s code at_ kept hstep
  cases step_fault_rdpmc hstep
  exact ⟨rfl, rfl, rfl, sameButCounters_monitorRuns s, fun _ hlegal => monitorRuns_ctr_toNat hlegal⟩

/-! ### The fault and the table of permissions -/

/-- 60_exceptions.md R320: RDPMC completes or raises #GP(0) at eip with the state kept. -/
theorem execRdpmc_completes_or_faults (s : State) :
    Completes (execRdpmc s) ∨ execRdpmc s = .fault (.generalProtection 0 s.eip s) := by
  cases hexec : execRdpmc s with
  | next t => exact .inl ⟨t, rfl⟩
  | fault f => rw [(execRdpmc_fault hexec).1]; exact .inr rfl
  | refused r => exact absurd hexec (execRdpmc_not_refused s r)

/-- Settles O9: the checks that raise are those of `execRdpmc_raises_iff`, and a raise is the one fault there is. -/
theorem rdpmcFaultKeepsState : Obligations.RdpmcFaultKeepsState := by
  intro s
  refine ⟨?_, execRdpmc_completes_or_faults s⟩
  rw [← rdpmcPermitted_iff, ← counterIndex_eq_none, Bool.not_eq_true, ← execRdpmc_raises_iff]
  constructor
  · rintro ⟨at_, kept, hfault⟩
    rw [exec_rdpmc, hfault, (execRdpmc_fault hfault).1]
  · intro hfault
    exact ⟨_, _, hfault⟩

theorem permission_rdpmc_eq_yes {s : State} : permission s .rdpmc = .yes ↔ rdpmcPermitted s = true := by
  simp [permission]

theorem permission_rdpmc_eq_generalProtection {s : State} :
    permission s .rdpmc = .generalProtection ↔ rdpmcPermitted s = false := by
  simp [permission]

/-- Settles O13: RDPMC's rows are its privilege check, and the rows of the other actions compare CPL with 3. -/
theorem permissionTable : Obligations.PermissionTable := by
  intro s
  refine ⟨?_, ?_, ?_, ?_, ?_, ?_, ?_, ?_, rfl, ?_, ?_⟩
  · intro hpce
    exact permission_rdpmc_eq_yes.2 (rdpmcPermitted_iff.2 (.inl hpce))
  · intro _ hcpl
    exact permission_rdpmc_eq_yes.2 (rdpmcPermitted_iff.2 (.inr hcpl))
  · intro hpce hcpl
    exact permission_rdpmc_eq_generalProtection.2 (rdpmcPermitted_eq_false_iff.2 ⟨hpce, hcpl⟩)
  · intro hcpl htsd
    simp [permission, hcpl, htsd]
  · intro hcpl htsd
    simp [permission, hcpl, htsd]
  · intro hcpl
    simp [permission, hcpl]
  · intro hcpl
    simp [permission, hcpl]
  · intro hcpl
    simp [permission, hcpl]
  · intro hecx
    rw [permission_rdpmc_eq_yes, exec_rdpmc, execRdpmc_completes_iff, and_iff_left hecx]
  · intro hrow
    exact execRdpmc_raises_iff.2 (.inl (permission_rdpmc_eq_generalProtection.1 hrow))

/-! ### The monitor -/

theorem toNat_ctr_monitorStep_legal {k : CounterId} {s : State} (h : s.legal k = true) (n : Nat) (d : Counter) :
    ((monitorStep k n d s).ctr k).toNat = ((s.ctr k).toNat + n) % 2 ^ 40 := by
  rw [monitorStep_eq, State.ctr_setCtr_same, if_pos h, BitVec.toNat_ofNat]

theorem monitorStep_ctr_other (n : Nat) (d : Counter) (s : State) {j k : CounterId} (h : j ≠ k) :
    (monitorStep k n d s).ctr j = s.ctr j := by
  rw [monitorStep_eq, State.ctr_setCtr_other _ _ h]

/-- 60_exceptions.md R335: a step of the monitor writes no field but its counter. -/
theorem monitorStep_eq_setCtr_ctr (k : CounterId) (n : Nat) (d : Counter) (s : State) :
    monitorStep k n d s = s.setCtr k ((monitorStep k n d s).ctr k) := by
  rw [monitorStep_eq, State.ctr_setCtr_same]

@[simp] theorem State.readable_monitorStep (k : CounterId) (n : Nat) (d : Counter) (s : State) :
    (monitorStep k n d s).readable = s.readable := by
  simp [State.readable, monitorStep_eq]

/-- 70_reset_and_hazards.md R362: a readable state is one in which both checks of RDPMC pass. -/
theorem completes_of_readable {s : State} (h : s.readable = true) : Completes (execRdpmc s) := by
  obtain ⟨hp, hindex⟩ := Bool.and_eq_true_iff.1 h
  obtain ⟨k, hk⟩ := Option.isSome_iff_exists.1 hindex
  exact ⟨_, execRdpmc_of_index hp hk⟩

/-- Settles O27: under a legal selection the value that the monitor writes is the sum modulo 2^40. -/
theorem monitorStepAddsModulo : Obligations.MonitorStepAddsModulo := by
  intro k n d s hlegal
  exact ⟨toNat_ctr_monitorStep_legal hlegal n d, monitorStep_eq_setCtr_ctr k n d s,
    fun _ hj => monitorStep_ctr_other n d s hj⟩

/-- Settles O28: below 2^40 the sum is its own remainder. -/
theorem noWrapNoDecrease : Obligations.NoWrapNoDecrease := by
  intro k n d s hlegal hnowrap
  rw [toNat_ctr_monitorStep_legal hlegal, Nat.mod_eq_of_lt hnowrap]
  exact Nat.le_add_right _ n

/-- Settles O29: the three clauses are what the monitor does to a counter that counts, stands still or is reserved. -/
theorem monitorRunsOnlyCounts : Obligations.MonitorRunsOnlyCounts := by
  intro s
  exact ⟨sameButCounters_monitorRuns s,
    fun _ => ⟨monitorRuns_ctr_toNat, monitorRuns_ctr_still, monitorRuns_ctr_reserved⟩⟩

/-- Settles O30: the drawn value is written whatever stood there, and neither check of RDPMC reads a counter. -/
theorem reservedSelectionUndefinedCount : Obligations.ReservedSelectionUndefinedCount := by
  intro k n d s hreserved
  refine ⟨monitorStep_ctr_reserved hreserved n d, fun _ hj => monitorStep_ctr_other n d s hj, ?_⟩
  intro hreadable
  exact completes_of_readable (by simpa using hreadable)

end Sys2Proof.Machine
end

section
/-! # The statements of 70_reset_and_hazards.md -/

namespace Sys2Proof.Machine

/-! ### The launch -/

theorem Memory.write_of_above {m : List Host.Cell} {a : Nat} (h : ∀ c ∈ m, c.1 < a) (b : Byte) :
    Memory.write m a b = m ++ [(a, b)] := by
  induction m with
  | nil => rfl
  | cons d r ih =>
    obtain ⟨hd, hr⟩ := List.forall_mem_cons.1 h
    simp only [Memory.write, if_neg (Nat.lt_asymm hd), if_neg (Nat.ne_of_gt hd), ih hr, List.cons_append]

/-- 20_memory.md R61: bytes placed above everything listed are listed behind it, one to an address. -/
theorem Memory.writeBytes_of_above (bs : List Byte) {m : List Host.Cell} {a : Nat} (h : ∀ c ∈ m, c.1 < a) :
    Memory.writeBytes m a bs = m ++ bs.mapIdx (fun i b => (a + i, b)) := by
  induction bs generalizing m a with
  | nil => simp [Memory.writeBytes]
  | cons b bs ih =>
    have habove : ∀ c ∈ m ++ [(a, b)], c.1 < a + 1 := by
      intro c hc
      rcases List.mem_append.1 hc with hold | hnew
      · exact Nat.lt_succ_of_lt (h c hold)
      · rw [List.mem_singleton.1 hnew]
        exact Nat.lt_succ_self a
    rw [Memory.writeBytes, Memory.write_of_above h, ih habove]
    simp [List.mapIdx_cons, Nat.add_right_comm, Nat.add_assoc]

theorem Memory.read_writeBytes_below (bs : List Byte) (m : List Host.Cell) {a x : Nat} (h : x < a) :
    Memory.read (Memory.writeBytes m a bs) x = Memory.read m x := by
  induction bs generalizing m a with
  | nil => rfl
  | cons b bs ih =>
    rw [Memory.writeBytes, ih _ (Nat.lt_succ_of_lt h), Memory.read_write_other _ _ (Nat.ne_of_lt h)]

/-- 20_memory.md R61: an address from the first byte placed on reads as the byte placed there, or as before. -/
theorem Memory.read_writeBytes_add (bs : List Byte) (m : List Host.Cell) (a n : Nat) :
    Memory.read (Memory.writeBytes m a bs) (a + n) = bs[n]?.or (Memory.read m (a + n)) := by
  induction bs generalizing m a n with
  | nil => rfl
  | cons b bs ih =>
    cases n with
    | zero =>
      rw [Memory.writeBytes, Nat.add_zero a, Memory.read_writeBytes_below _ _ (Nat.lt_add_one a),
        Memory.read_write_same]
      rfl
    | succ n =>
      have hne : a + 1 + n ≠ a := by omega
      have haddr : a + (n + 1) = a + 1 + n := by omega
      rw [Memory.writeBytes, haddr, ih, Memory.read_write_other _ _ hne, List.getElem?_cons_succ]

theorem Launch.read_start_mem (l : Launch) (n : Nat) :
    Memory.read l.start.mem (l.progBase + n) = l.program[n]? := by
  have hread := Memory.read_writeBytes_add l.program [] l.progBase n
  rwa [Memory.read, Memory.unlisted, Option.or_none] at hread

/-- 70_reset_and_hazards.md R361, R377: the last byte listed is the program's last one; without one the end is the
base. -/
theorem Launch.programEnd_start (l : Launch) : l.start.programEnd = l.progBase + l.program.length := by
  have hmem : l.start.mem = l.program.mapIdx (fun i b => (l.progBase + i, b)) :=
    Memory.writeBytes_of_above l.program (List.forall_mem_nil _)
  rw [State.programEnd, hmem]
  rcases List.eq_nil_or_concat' l.program with hnil | ⟨bs, b, hsnoc⟩
  · rw [hnil]
    rfl
  · rw [hsnoc, List.mapIdx_concat, List.getLast?_concat, List.length_append]
    rfl

theorem Launch.wellFormed_iff {l : Launch} :
    l.wellFormed = true ↔ (modeCpl l.mode = none ∨ modeCpl l.mode = some l.cpl) ∧
      l.progBase + l.program.length ≤ Config.addressLimit ∧
      l.progBase ≤ l.eip ∧ l.eip ≤ l.progBase + l.program.length := by
  simp [Launch.wellFormed, and_assoc]

theorem Launch.modeFixesCpl_start {l : Launch} (h : modeCpl l.mode = none ∨ modeCpl l.mode = some l.cpl) :
    modeFixesCpl l.start = true := by
  rcases h with hfree | hfixed
  · simp [modeFixesCpl, Launch.start, hfree]
  · simp [modeFixesCpl, Launch.start, hfixed]

/-- Settles O26: the program is placed in an empty memory, and eip lies between its base and its end, which does not
pass the last address. -/
theorem launchMeetsMachineInv : Obligations.LaunchMeetsMachineInv := by
  intro l hwell
  obtain ⟨hcpl, hlimit, hbase, heip⟩ := Launch.wellFormed_iff.1 hwell
  have hend := Launch.programEnd_start l
  refine ⟨⟨?_, Launch.modeFixesCpl_start hcpl, hbase, ?_, ?_⟩, hend, Launch.read_start_mem l⟩
  · exact Memory.writeBytes_wf l.program List.Pairwise.nil l.progBase
  · rw [hend]
    exact heip
  · exact heip.trans hlimit

/-! ### Hazards of the event selection -/

/-- 40_events_pentium.md R101: a counter that counts an event of Table 6-1 holds a code that selects its row. -/
theorem Selections.pentiumSelected_of_event {x : Selections} {k : CounterId} {r : PentiumRow}
    (h : x.event k = some (.pentium r)) : ∃ c, pentiumSelected c k = some r := by
  cases hsel : x.sel k with
  | some c =>
    rw [Selections.event_of_sel hsel] at h
    exact ⟨c, by simpa using h⟩
  | none =>
    cases hp : x.perfEvtSel k with
    | some p => simp [Selections.event_of_perfEvtSel hp] at h
    | none => simp [Selections.event, hsel, hp] at h

/-- Settles O36: the row counted has "Yes" for its counter; the twins of code 110010 are read off the table. -/
theorem pentiumEventStaysOnItsCounter : Obligations.PentiumEventStaysOnItsCounter := by
  refine ⟨?_, by decide, by decide⟩
  intro r k _ hno s hevent
  obtain ⟨c, hselected⟩ := Selections.pentiumSelected_of_event hevent
  obtain ⟨-, -, hyes, -⟩ := row_of_pentiumSelected hselected
  exact Bool.false_ne_true (hno.symm.trans hyes)

/-- 41_events_p6.md R204: under 29H, 2AH or 2EH an admitted mask selects the event, qualified by the states whose
bits are set. -/
theorem Selections.event_of_mesi {s : State} {k : CounterId} {e u : Byte} (he : e = 0x29 ∨ e = 0x2A ∨ e = 0x2E)
    (hsel : s.selections.perfEvtSel k = some ⟨e, u⟩) (hu : u.toNat ≤ 0x0F) :
    ∃ r, s.selections.event k = some (.p6 r (.states (countedStates u))) ∧ r.evt = e := by
  obtain ⟨r, hr, rfl, hmesi, heither⟩ := mesiRow_of_evt e (by simpa using he)
  refine ⟨r, ?_, rfl⟩
  rw [← P6Row.qualifier_mesi hmesi]
  exact Selections.event_of_p6Row hr hsel (by simpa [hmesi] using hu) (by simp [heither])

theorem countedStates_all : countedStates 0x0F = [.m, .e, .s, .i] := rfl

theorem State.countsNothing_of_event_noStates {s : State} {k : CounterId} {r : P6Row}
    (h : s.selections.event k = some (.p6 r (.states []))) : s.countsNothing k = true := by
  simp [State.countsNothing, h, SelectedEvent.countsNothing]

/-- 60_exceptions.md R338 (a): where nothing is counted, both of the monitor's runs leave the counter. -/
theorem step_next_ctr_still {s t : State} {k : CounterId} (h : s.countsNothing k = true) (hstep : step s = .next t) :
    t.ctr k = s.ctr k := by
  obtain ⟨j, -, -, -, rfl⟩ := step_next_rdpmc hstep
  rw [monitorRuns_ctr_still (by simpa using h), sampleCounter_ctr, monitorRuns_ctr_still h]

/-- Settles O31: mask 0FH has all four state bits set, and mask 00H none, so that nothing is counted. -/
theorem l2MaskZeroNeverMoves : Obligations.L2MaskZeroNeverMoves := by
  intro s k e he
  constructor
  · intro hsel
    exact countedStates_all ▸ Selections.event_of_mesi he hsel (by decide)
  · intro hsel
    obtain ⟨r, hevent, -⟩ := Selections.event_of_mesi he hsel (by decide)
    have hnothing : s.countsNothing k = true := State.countsNothing_of_event_noStates hevent
    refine ⟨monitorRuns_ctr_still hnothing, fun t hstep => step_next_ctr_still hnothing hstep, ?_⟩
    intro code at_ kept hstep
    cases step_fault_rdpmc hstep
    exact monitorRuns_ctr_still hnothing

/-- 70_reset_and_hazards.md R371, 41_events_p6.md R207: the kinds of count of the EBL duration events. -/
theorem eblCount_of_evt : ∀ r ∈ p6Table,
    (r.evt = 0x62 → r.count = .clocksByMask) ∧ (r.evt = 0x63 → r.count = .perClock .processor) ∧
      (r.evt = 0x61 ∨ r.evt = 0x7A → r.count = .perClock .bus) ∧ (r.evt = 0x7E → r.count = .perClock .unstated) := by
  decide +kernel

theorem P6Row.clock_of_perClock {r : P6Row} {c : Clock} (h : r.count = .perClock c) (u : Byte) :
    r.clock u = some c := by
  simp [P6Row.clock, h]

theorem P6Row.clock_of_clocksByMask {r : P6Row} (h : r.count = .clocksByMask) (u : Byte) :
    r.clock u = some (if u = 0x20 then .processor else .bus) := by
  simp [P6Row.clock, h]

/-- Settles O42: the row's kind of count names the clock, and for 62H the mask does. -/
theorem eblClocksByRow : Obligations.EblClocksByRow := by
  refine ⟨?_, ?_, ?_, ?_⟩
  · intro r hr hevt
    obtain ⟨hcount, -⟩ := eblCount_of_evt r hr
    exact ⟨P6Row.clock_of_clocksByMask (hcount hevt) 0x00, P6Row.clock_of_clocksByMask (hcount hevt) 0x20⟩
  · intro r hr hevt
    obtain ⟨-, hcount, -⟩ := eblCount_of_evt r hr
    exact ⟨P6Row.clock_of_perClock (hcount hevt) 0x00, P6Row.clock_of_perClock (hcount hevt) 0x20⟩
  · intro r hr hevt
    obtain ⟨-, -, hcount, -⟩ := eblCount_of_evt r hr
    exact P6Row.clock_of_perClock (hcount hevt) 0x00
  · intro r hr hevt
    obtain ⟨-, -, -, hcount⟩ := eblCount_of_evt r hr
    exact P6Row.clock_of_perClock (hcount hevt) 0x00

/-! ### The difference of two reads -/

theorem monitorStep_ctr_legal {k : CounterId} {s : State} (h : s.legal k = true) (n : Nat) (d : Counter) :
    (monitorStep k n d s).ctr k = s.ctr k + BitVec.ofNat 40 n := by
  rw [monitorStep_eq, State.ctr_setCtr_same, if_pos h, BitVec.ofNat_add, BitVec.ofNat_toNat, BitVec.setWidth_eq]

@[simp] theorem monitorStep_ecx (k : CounterId) (n : Nat) (d : Counter) (s : State) :
    (monitorStep k n d s).ecx = s.ecx := by
  rw [monitorStep_eq, State.setCtr_ecx]

theorem execRdpmc_next_of_index {s t : State} {k : CounterId} (hk : counterIndex s.ecx = some k)
    (hexec : execRdpmc s = .next t) : t = sampleCounter k s := by
  obtain ⟨j, -, hj, rfl⟩ := execRdpmc_next hexec
  rw [Option.some.inj (hj.symm.trans hk)]

/-- Settles O33: the second sample is the first plus n, modulo 2^40, and n is its own remainder. -/
theorem differenceOfReadsIsCount : Obligations.DifferenceOfReadsIsCount := by
  intro s k n d t u hk hlegal hn hfirst hsecond
  obtain rfl : t = sampleCounter k s := execRdpmc_next_of_index hk hfirst
  obtain rfl : u = sampleCounter k (monitorStep k n d (sampleCounter k s)) :=
    execRdpmc_next_of_index (by simpa using hk) hsecond
  have hcount : (monitorStep k n d (sampleCounter k s)).ctr k = s.ctr k + BitVec.ofNat 40 n := by
    rw [monitorStep_ctr_legal (by simpa using hlegal), sampleCounter_ctr]
  rw [sampleCounter_pair, sampleCounter_pair, extractLsb'_placeCounter, extractLsb'_placeCounter, hcount,
    add_sub_cancel_left, BitVec.toNat_ofNat, Nat.mod_eq_of_lt hn]

/-! ### The step and the run -/

/-- Settles O14: the two bytes are what `fetchDecode` decodes, and `monitorAfter` is the second run of the monitor. -/
theorem stepRunsDecodedInstruction : Obligations.StepRunsDecodedInstruction := by
  intro s i _ hdec hlimit
  rw [step_of_fetchDecode_ok (fetchDecode_of_decode_ok hdec hlimit)]
  rfl

theorem State.isFinal_iff {s : State} :
    s.isFinal = true ↔ s.eip = s.programEnd ∧ Memory.read s.mem s.eip = none := by
  simp [State.isFinal]

theorem run_of_isFinal {s : State} (h : s.isFinal = true) (n : Nat) : run n s = some (.final (monitorRuns s)) := by
  cases n <;> simp [run, h]

theorem run_zero_of_not_isFinal {s : State} (h : s.isFinal = false) : run 0 s = none := by
  simp [run, h]

section
variable {s : State}

theorem run_succ_of_next {t : State} (h : s.isFinal = false) (hstep : step s = .next t) (n : Nat) :
    run (n + 1) s = run n t := by
  simp [run, h, hstep]

theorem run_succ_of_fault {f : Fault} (h : s.isFinal = false) (hstep : step s = .fault f) (n : Nat) :
    run (n + 1) s = some (.faulted f) := by
  simp [run, h, hstep]

theorem run_succ_of_refused {r : Refusal} (h : s.isFinal = false) (hstep : step s = .refused r) (n : Nat) :
    run (n + 1) s = some (.refused (monitorRuns s) r) := by
  simp [run, h, hstep]

end

/-- Settles O46: the run shows the state that the monitor leaves. -/
theorem runOfNothingOnlyCounts : Obligations.RunOfNothingOnlyCounts := by
  intro n s hfinal
  exact ⟨monitorRuns s, run_of_isFinal hfinal n, sameButCounters_monitorRuns s, fun _ => monitorRuns_ctr_toNat⟩

/-- 70_reset_and_hazards.md R377: an ending reached within n instructions is the ending, however long the run. -/
theorem run_add {n : Nat} {s : State} {e : Ending} (h : run n s = some e) (m : Nat) : run (n + m) s = some e := by
  induction n generalizing s with
  | zero =>
    cases hfinal : s.isFinal with
    | true => rwa [run_of_isFinal hfinal] at h ⊢
    | false => rw [run_zero_of_not_isFinal hfinal] at h; cases h
  | succ n ih =>
    rw [Nat.succ_add]
    cases hfinal : s.isFinal with
    | true => rwa [run_of_isFinal hfinal] at h ⊢
    | false =>
      cases hstep : step s with
      | next t => rw [run_succ_of_next hfinal hstep] at h ⊢; exact ih h
      | fault f => rwa [run_succ_of_fault hfinal hstep] at h ⊢
      | refused r => rwa [run_succ_of_refused hfinal hstep] at h ⊢

theorem SameConfiguration.trans {s t u : State} (hst : SameConfiguration s t) (htu : SameConfiguration t u) :
    SameConfiguration s u :=
  Eq.trans htu (congrArg (fun x : State => { x with
    eax := u.eax, edx := u.edx, eip := u.eip, ctr0 := u.ctr0, ctr1 := u.ctr1, draws := u.draws }) hst)

theorem sameConfiguration_monitorRuns (s : State) : SameConfiguration s (monitorRuns s) := by
  rw [monitorRuns_eq]

theorem sameConfiguration_of_step_next {s t : State} (hstep : step s = .next t) : SameConfiguration s t :=
  (stepChangesOnlyResultAndCounters s t hstep).1

/-- How a run ends in a state that it has reached: one case for each of 70_reset_and_hazards.md R377 (a) to (c). -/
inductive EndsIn (t : State) : Ending → Prop where
  | final (h : t.isFinal = true) : EndsIn t (.final (monitorRuns t))
  | faulted {f : Fault} (h : step t = .fault f) : EndsIn t (.faulted f)
  | refused {r : Refusal} (h : step t = .refused r) : EndsIn t (.refused (monitorRuns t) r)

theorem endsIn_of_run_isFinal {n : Nat} {s : State} {e : Ending} (hfinal : s.isFinal = true) (h : run n s = some e) :
    EndsIn s e := by
  rw [run_of_isFinal hfinal] at h
  cases h
  exact .final hfinal

/-- 60_exceptions.md R345, R333: a run ends in a state that has the configuration of its start. -/
theorem exists_endsIn_of_run {n : Nat} {s : State} {e : Ending} (h : run n s = some e) :
    ∃ t, SameConfiguration s t ∧ EndsIn t e := by
  induction n generalizing s with
  | zero =>
    cases hfinal : s.isFinal with
    | true => exact ⟨s, rfl, endsIn_of_run_isFinal hfinal h⟩
    | false =>
      rw [run_zero_of_not_isFinal hfinal] at h
      cases h
  | succ n ih =>
    cases hfinal : s.isFinal with
    | true => exact ⟨s, rfl, endsIn_of_run_isFinal hfinal h⟩
    | false =>
      cases hstep : step s with
      | next t =>
        rw [run_succ_of_next hfinal hstep] at h
        obtain ⟨u, hsame, hends⟩ := ih h
        exact ⟨u, (sameConfiguration_of_step_next hstep).trans hsame, hends⟩
      | fault f =>
        rw [run_succ_of_fault hfinal hstep] at h
        cases h
        exact ⟨s, rfl, .faulted hstep⟩
      | refused r =>
        rw [run_succ_of_refused hfinal hstep] at h
        cases h
        exact ⟨s, rfl, .refused hstep⟩

/-- Settles O45: the monitor moves neither eip nor the program's end of the state that the run ends in, and a step
that faults raised #GP(0) there. -/
theorem runEndingIsStable : Obligations.RunEndingIsStable := by
  intro n m s e hrun
  obtain ⟨t, hsame, hends⟩ := exists_endsIn_of_run hrun
  refine ⟨run_add hrun m, ?_, ?_⟩
  · rintro u rfl
    cases hends with
    | final hfinal =>
      obtain ⟨heip, -⟩ := State.isFinal_iff.1 hfinal
      exact ⟨by simpa using heip, hsame.trans (sameConfiguration_monitorRuns t)⟩
  · rintro f rfl
    cases hends with
    | faulted hstep =>
      exact ⟨t.eip, monitorRuns t, step_fault_rdpmc hstep, hsame.trans (sameConfiguration_monitorRuns t)⟩

end Sys2Proof.Machine
end
